-- ==== Sys2Proof/Word.lean ====
section
/-! DEFINITION. The word types of the block (00_scope.md section 5: unsigned bytes, 16-bit addresses)
and the transaction word of 30_encoding.md R90. -/

namespace Sys2Proof

/-- `u8`: the only width a bus access moves (20_memory.md R62). -/
abbrev Byte := BitVec 8

/-- `u16`: a CPU address (20_memory.md R60). -/
abbrev Addr := BitVec 16

/-- The 32-bit transaction word (30_encoding.md R90). -/
abbrev TxWord := BitVec 32

end Sys2Proof
end

