-- ==== Sys2Proof/Config.lean ====
section
/-! DEFINITION. The parameters of 00_scope.md section 3, as one record of plain data that State carries and
no operation changes, and the free values: uninterpreted constants, no body, for what the spec leaves as a draw. -/

namespace Sys2Proof

/-- The legal positions of the keyboard-data bit in port B (00_scope.md R14): any bit but bit 4. -/
inductive KbdDataBit where
  | b0 | b1 | b2 | b3 | b5 | b6 | b7
deriving DecidableEq, Repr, Inhabited

/-- The bit number of a legal position (00_scope.md R14). -/
def KbdDataBit.index : KbdDataBit → Nat
  | .b0 => 0
  | .b1 => 1
  | .b2 => 2
  | .b3 => 3
  | .b5 => 5
  | .b6 => 6
  | .b7 => 7

/-- The parameters of 00_scope.md section 3. CART_IMAGE (R19) is the image beside a CART_ATTACH word. -/
structure Config where
  /-- RAM_SIZE in bytes (R7). -/
  ramSize : Nat
  /-- OPEN_BUS_VALUE (R9). -/
  openBus : Byte
  /-- ROM_IMAGE (R10): the bytes the host supplied, from offset 0. -/
  rom : List Byte
  /-- RAM_INIT (R11), in the memory's canonical form. -/
  ramInit : List Host.Cell
  /-- The draw behind BANK3_INIT (R12), before reduction modulo NUM_BANKS. -/
  bank3Draw : Nat
  /-- KBD_PRESENT (R13). -/
  kbdPresent : Bool
  /-- KBD_DATA_BIT (R14), open. -/
  kbdDataBit : KbdDataBit
  /-- KBD_CLOCK_PIA_LINE (R15), open. -/
  kbdClockLine : String
  /-- KBD_SLICE_GUARD (R16). -/
  kbdSliceGuard : Bool
  /-- UART_DEBUG_STDIO (R17). -/
  uartDebugStdio : Bool
  /-- UART_DR_BIT (R18). -/
  uartDrBit : Fin 8
deriving DecidableEq, Repr

namespace Config

/-- The size of a RAM page and of a bank window, in bytes (10_state.md R49). -/
def pageSize : Nat := 16384

/-- The fixed store offset of the cartridge image (45_cartridge.md R241). -/
def cartBase : Nat := 0x0100

/-- NUM_BANKS (R8): whole pages only, the remainder truncated. -/
def numBanks (c : Config) : Nat := c.ramSize / pageSize

/-- BANK3_INIT (R12): every page in [0, NUM_BANKS) is some draw's. -/
def bank3Init (c : Config) : Nat := c.bank3Draw % c.numBanks

/-- FREE VALUE (R10): the ROM byte at an offset the host's list does not reach. Log 9. -/
opaque romFree : Nat → Byte

/-- FREE VALUE (20_memory.md R61): a collaborator's answer where the environment has queued none, by draw. Log 8. -/
opaque devAnswer : Nat → Byte

/-- FREE VALUE (44_keyboard.md R223): the port-B bits the source does not define, by draw. Log 7. -/
opaque portBDraw : Nat → Byte

/-- FREE VALUE (R14): the open keyboard-data bit of the machine that State.reset is. Log 12. -/
opaque openKbdDataBit : KbdDataBit

/-- FREE VALUE (R15): the open PIA line name of the machine that State.reset is. Log 12. -/
opaque openKbdClockLine : String

/-- The parameters of the machine that State.reset is: the spec's defaults (00_scope.md section 3), the open
parameters uninterpreted (log 12), no ROM byte supplied (log 9), and for the two draws of machine start the values
the model names: RAM_INIT with nothing listed (log 10) and page 0 (log 11). -/
def standard : Config where
  ramSize := 524288
  openBus := 0xFF
  rom := []
  ramInit := []
  bank3Draw := 0
  kbdPresent := true
  kbdDataBit := openKbdDataBit
  kbdClockLine := openKbdClockLine
  kbdSliceGuard := true
  uartDebugStdio := false
  uartDrBit := 0

end Config

end Sys2Proof
end

