-- ==== Sys2Proof/Syntax.lean ====
section
/-! DEFINITION. The operations of the block, one constructor per row of spec/opcode_table.json, and the
transaction that spells one. An operand has exactly the bits its row leaves free (30_encoding.md R94, R95). -/

namespace Sys2Proof

/-- The operations of 30_encoding.md R91 and R96. -/
inductive Instr where
  /-- RD.BANK1 (R115): window offset `k`, address `k`. -/
  | rdBank1 (k : BitVec 14)
  /-- RD.BANK2 (R116): window offset `k`, address `0x4000 + k`. -/
  | rdBank2 (k : BitVec 14)
  /-- RD.BANK3 (R117): window offset `k`, address `0x8000 + k`. -/
  | rdBank3 (k : BitVec 14)
  /-- RD.PIA (R118): register offset. -/
  | rdPia (off : BitVec 10)
  /-- RD.UART (R119): register offset. -/
  | rdUart (off : BitVec 10)
  /-- RD.VDP (R120): port, 0 VRAM data, 1 control and status. -/
  | rdVdp (port : BitVec 1)
  /-- RD.PSG_STATUS (R121), address 0xCC02. -/
  | rdPsgStatus
  /-- RD.PSG_DATA (R122), address 0xCC03. -/
  | rdPsgData
  /-- RD.SEL_CLR (R123), address 0xCC06. -/
  | rdSelClr
  /-- RD.SEL_SET (R124), address 0xCC0E. -/
  | rdSelSet
  /-- RD.DIAG (R126), address `0xCD00 + port`. -/
  | rdDiag (port : BitVec 1)
  /-- RD.ROM (R127): ROM offset, address `0xE000 + off`. -/
  | rdRom (off : BitVec 13)
  /-- RD.UNMAPPED (R128): the whole address. -/
  | rdUnmapped (a : Addr)
  /-- WR.BANK1 (R131). -/
  | wrBank1 (k : BitVec 14) (v : Byte)
  /-- WR.BANK2 (R132). -/
  | wrBank2 (k : BitVec 14) (v : Byte)
  /-- WR.BANK3 (R133). -/
  | wrBank3 (k : BitVec 14) (v : Byte)
  /-- WR.PIA (R134). -/
  | wrPia (off : BitVec 10) (v : Byte)
  /-- WR.UART (R135). -/
  | wrUart (off : BitVec 10) (v : Byte)
  /-- WR.VDP (R136). -/
  | wrVdp (port : BitVec 1) (v : Byte)
  /-- WR.PSG_ADDR (R137), the address latch at 0xCC02. -/
  | wrPsgAddr (v : Byte)
  /-- WR.PSG_DATA (R138), the data port at 0xCC03. -/
  | wrPsgData (v : Byte)
  /-- WR.SEL_CLR (R139). -/
  | wrSelClr (v : Byte)
  /-- WR.SEL_SET (R140). -/
  | wrSelSet (v : Byte)
  /-- WR.DIAG (R141). -/
  | wrDiag (port : BitVec 1) (v : Byte)
  /-- WR.ROM (R142). -/
  | wrRom (off : BitVec 13) (v : Byte)
  /-- WR.UNMAPPED (R143). -/
  | wrUnmapped (a : Addr) (v : Byte)
  /-- CPU_BOUNDARY (R220). -/
  | cpuBoundary
  /-- PIA_PORTA_OUT (R163). -/
  | piaPortaOut (v : Byte)
  /-- PIA_PORTB_IN (R223). -/
  | piaPortbIn
  /-- PIA_FIRQ_LEVEL (R198). -/
  | piaFirqLevel (l : Bool)
  /-- VDP_IRQ_LEVEL (R197). -/
  | vdpIrqLevel (l : Bool)
  /-- SVC_NMI_LEVEL (R196). -/
  | svcNmiLevel (l : Bool)
  /-- KBD_CLOCK (R216). -/
  | kbdClock (l : Bool)
  /-- KBD_DATA (R221). -/
  | kbdData (l : Bool)
  /-- JOY_READ (R185): controller port and its raw snapshot. -/
  | joyRead (p : BitVec 1) (raw : Byte)
  /-- UART_TX (R255). -/
  | uartTx (b : Byte)
  /-- HOST_SERIAL_IN (R257). -/
  | hostSerialIn (b : Byte)
  /-- CART_ATTACH (R240): the image carried beside the word (R93). -/
  | cartAttach (image : List Byte)
  /-- MACHINE_START (R330). -/
  | machineStart
deriving DecidableEq, Repr

/-- What an agent hands the block: the transaction word, and beside it the byte sequence that only a
CART_ATTACH has (30_encoding.md R90, R93). -/
structure Transaction where
  word : TxWord
  image : List Byte
deriving DecidableEq, Repr

end Sys2Proof
end

