-- ==== Sys2Proof/Decode.lean ====
section
/-! DEFINITION. The address decode of 30_encoding.md R96 as a table of mask and match rows, the decoder of
transactions, total and refusing by name (R92), and the encoder written from the same tables (R91, R98). -/

namespace Sys2Proof

/-- The regions of 30_encoding.md R96. -/
inductive Region where
  | bank1 | bank2 | bank3 | pia | uart | vdp | psgA | psgD | selClr | selSet | diag | rom | unmapped
deriving DecidableEq, Repr

/-- One row of the address decode: an address is the row's when `(a & mask) = pattern`. -/
structure MapRow where
  region : Region
  pattern : Addr
  mask : Addr
deriving DecidableEq, Repr

/-- `(a & mask) = match` (30_encoding.md R96). -/
def MapRow.claims (r : MapRow) (a : Addr) : Bool := (a &&& r.mask) == r.pattern

/-- The rows of 30_encoding.md R96, inclusive ranges (90_conflicts.md C1). -/
def busMap : List MapRow :=
  [ ⟨.bank1,  0x0000, 0xC000⟩,
    ⟨.bank2,  0x4000, 0xC000⟩,
    ⟨.bank3,  0x8000, 0xC000⟩,
    ⟨.pia,    0xC000, 0xFC00⟩,
    ⟨.uart,   0xC400, 0xFC00⟩,
    ⟨.vdp,    0xCC00, 0xFFFE⟩,
    ⟨.psgA,   0xCC02, 0xFFFF⟩,
    ⟨.psgD,   0xCC03, 0xFFFF⟩,
    ⟨.selClr, 0xCC06, 0xFFFF⟩,
    ⟨.selSet, 0xCC0E, 0xFFFF⟩,
    ⟨.diag,   0xCD00, 0xFFFE⟩,
    ⟨.rom,    0xE000, 0xE000⟩ ]

/-- The region of an address in a map: the row that claims it, unmapped when none does (R96, R97). -/
def regionIn : List MapRow → Addr → Region
  | [], _ => .unmapped
  | r :: rs, a => if r.claims a then r.region else regionIn rs a

/-- The region of a CPU address (30_encoding.md R96, 40_bus_dispatch.md R110). -/
def region (a : Addr) : Region := regionIn busMap a

/-- Two rows share an address exactly when they agree on every bit both masks compare; the lowest shared
address then has the bits of both patterns and no other. -/
def MapRow.firstShared (r q : MapRow) : Option Addr :=
  if (r.pattern ^^^ q.pattern) &&& (r.mask &&& q.mask) = 0 then some (r.pattern ||| q.pattern) else none

/-- The lower of two addresses that may be absent. -/
def lowerAddr : Option Addr → Option Addr → Option Addr
  | none, b => b
  | a, none => a
  | some a, some b => some (if a.toNat ≤ b.toNat then a else b)

/-- The first address claimed by two rows of a map, if any: the non-overlap check of 60_exceptions.md R301 (a). -/
def mapOverlap : List MapRow → Option Addr
  | [] => none
  | r :: rs => lowerAddr (rs.foldl (fun m q => lowerAddr m (r.firstShared q)) none) (mapOverlap rs)

/-- Why a transaction spells no operation (30_encoding.md R92). -/
inductive Reject where
  /-- KIND is not in the table of R91. -/
  | unknownKind (kind : Byte)
  /-- A bit the kind does not use is not zero. -/
  | unusedBits
  /-- An image stands beside a word other than CART_ATTACH (log 17). -/
  | strayImage
deriving DecidableEq, Repr

/-- A BUS_RD of address `a` (30_encoding.md R94, R96). -/
def busRead (a : Addr) : Instr :=
  match region a with
  | .bank1 => .rdBank1 (a.extractLsb' 0 14)
  | .bank2 => .rdBank2 (a.extractLsb' 0 14)
  | .bank3 => .rdBank3 (a.extractLsb' 0 14)
  | .pia => .rdPia (a.extractLsb' 0 10)
  | .uart => .rdUart (a.extractLsb' 0 10)
  | .vdp => .rdVdp (a.extractLsb' 0 1)
  | .psgA => .rdPsgStatus
  | .psgD => .rdPsgData
  | .selClr => .rdSelClr
  | .selSet => .rdSelSet
  | .diag => .rdDiag (a.extractLsb' 0 1)
  | .rom => .rdRom (a.extractLsb' 0 13)
  | .unmapped => .rdUnmapped a

/-- A BUS_WR of value `v` to address `a` (30_encoding.md R94, R96). -/
def busWrite (a : Addr) (v : Byte) : Instr :=
  match region a with
  | .bank1 => .wrBank1 (a.extractLsb' 0 14) v
  | .bank2 => .wrBank2 (a.extractLsb' 0 14) v
  | .bank3 => .wrBank3 (a.extractLsb' 0 14) v
  | .pia => .wrPia (a.extractLsb' 0 10) v
  | .uart => .wrUart (a.extractLsb' 0 10) v
  | .vdp => .wrVdp (a.extractLsb' 0 1) v
  | .psgA => .wrPsgAddr v
  | .psgD => .wrPsgData v
  | .selClr => .wrSelClr v
  | .selSet => .wrSelSet v
  | .diag => .wrDiag (a.extractLsb' 0 1) v
  | .rom => .wrRom (a.extractLsb' 0 13) v
  | .unmapped => .wrUnmapped a v

/-- `KIND = word[31:24]` (30_encoding.md R90). -/
def kindField (w : TxWord) : Byte := w.extractLsb' 24 8

/-- `ADDR = word[23:8]` (30_encoding.md R90). -/
def addrField (w : TxWord) : Addr := w.extractLsb' 8 16

/-- `DATA = word[7:0]` (30_encoding.md R90). -/
def dataField (w : TxWord) : Byte := w.extractLsb' 0 8

/-- An operation that is admitted only when its unused bits are zero (30_encoding.md R91). -/
def ifUnusedZero (unusedZero : Bool) (i : Instr) : Except Reject Instr :=
  if unusedZero then .ok i else .error .unusedBits

/-- An event whose only operand is a byte in DATA (R91). -/
def byteEvent (a : Addr) (d : Byte) (mk : Byte → Instr) : Except Reject Instr :=
  ifUnusedZero (a == 0) (mk d)

/-- An event whose only operand is a level in bit 0 of DATA (R91). -/
def levelEvent (a : Addr) (d : Byte) (mk : Bool → Instr) : Except Reject Instr :=
  ifUnusedZero (a == 0 && d.extractLsb' 1 7 == 0) (mk (d.getLsbD 0))

/-- An event with no operand (R91). -/
def plainEvent (a : Addr) (d : Byte) (i : Instr) : Except Reject Instr :=
  ifUnusedZero (a == 0 && d == 0) i

/-- The kinds of 30_encoding.md R91 but CART_ATTACH, on the fields of a word. -/
def decodeFields (kind : Byte) (a : Addr) (d : Byte) : Except Reject Instr :=
  if kind = 0x00 then ifUnusedZero (d == 0) (busRead a)
  else if kind = 0x01 then .ok (busWrite a d)
  else if kind = 0x02 then plainEvent a d .cpuBoundary
  else if kind = 0x10 then byteEvent a d .piaPortaOut
  else if kind = 0x11 then plainEvent a d .piaPortbIn
  else if kind = 0x12 then levelEvent a d .piaFirqLevel
  else if kind = 0x20 then levelEvent a d .vdpIrqLevel
  else if kind = 0x30 then levelEvent a d .svcNmiLevel
  else if kind = 0x40 then levelEvent a d .kbdClock
  else if kind = 0x41 then levelEvent a d .kbdData
  else if kind = 0x50 then ifUnusedZero (a.extractLsb' 1 15 == 0) (.joyRead (a.extractLsb' 0 1) d)
  else if kind = 0x60 then byteEvent a d .uartTx
  else if kind = 0x61 then byteEvent a d .hostSerialIn
  else if kind = 0x7F then plainEvent a d .machineStart
  else .error (.unknownKind kind)

/-- The decoder (30_encoding.md R91 to R93, R97): total, refusing by name a transaction that spells no operation. -/
def decode (t : Transaction) : Except Reject Instr :=
  let kind := kindField t.word
  let a := addrField t.word
  let d := dataField t.word
  if kind = 0x70 then plainEvent a d (.cartAttach t.image)
  else if t.image.isEmpty then decodeFields kind a d
  else .error .strayImage

/-- A transaction word from its three fields (30_encoding.md R90). -/
def txWord (kind : Byte) (a : Addr) (d : Byte) : TxWord := kind ++ a ++ d

/-- A level as the DATA byte that spells it (30_encoding.md R90). -/
def levelData (l : Bool) : Byte := if l then 1 else 0

/-- KIND, ADDR and DATA of an instruction (30_encoding.md R91, R96). -/
def encodeFields : Instr → Byte × Addr × Byte
  | .rdBank1 k => (0x00, 0b00#2 ++ k, 0)
  | .rdBank2 k => (0x00, 0b01#2 ++ k, 0)
  | .rdBank3 k => (0x00, 0b10#2 ++ k, 0)
  | .rdPia off => (0x00, 0b110000#6 ++ off, 0)
  | .rdUart off => (0x00, 0b110001#6 ++ off, 0)
  | .rdVdp port => (0x00, 0b110011000000000#15 ++ port, 0)
  | .rdPsgStatus => (0x00, 0xCC02, 0)
  | .rdPsgData => (0x00, 0xCC03, 0)
  | .rdSelClr => (0x00, 0xCC06, 0)
  | .rdSelSet => (0x00, 0xCC0E, 0)
  | .rdDiag port => (0x00, 0b110011010000000#15 ++ port, 0)
  | .rdRom off => (0x00, 0b111#3 ++ off, 0)
  | .rdUnmapped a => (0x00, a, 0)
  | .wrBank1 k v => (0x01, 0b00#2 ++ k, v)
  | .wrBank2 k v => (0x01, 0b01#2 ++ k, v)
  | .wrBank3 k v => (0x01, 0b10#2 ++ k, v)
  | .wrPia off v => (0x01, 0b110000#6 ++ off, v)
  | .wrUart off v => (0x01, 0b110001#6 ++ off, v)
  | .wrVdp port v => (0x01, 0b110011000000000#15 ++ port, v)
  | .wrPsgAddr v => (0x01, 0xCC02, v)
  | .wrPsgData v => (0x01, 0xCC03, v)
  | .wrSelClr v => (0x01, 0xCC06, v)
  | .wrSelSet v => (0x01, 0xCC0E, v)
  | .wrDiag port v => (0x01, 0b110011010000000#15 ++ port, v)
  | .wrRom off v => (0x01, 0b111#3 ++ off, v)
  | .wrUnmapped a v => (0x01, a, v)
  | .cpuBoundary => (0x02, 0, 0)
  | .piaPortaOut v => (0x10, 0, v)
  | .piaPortbIn => (0x11, 0, 0)
  | .piaFirqLevel l => (0x12, 0, levelData l)
  | .vdpIrqLevel l => (0x20, 0, levelData l)
  | .svcNmiLevel l => (0x30, 0, levelData l)
  | .kbdClock l => (0x40, 0, levelData l)
  | .kbdData l => (0x41, 0, levelData l)
  | .joyRead p raw => (0x50, 0#15 ++ p, raw)
  | .uartTx b => (0x60, 0, b)
  | .hostSerialIn b => (0x61, 0, b)
  | .cartAttach _ => (0x70, 0, 0)
  | .machineStart => (0x7F, 0, 0)

/-- The image beside the word of an instruction (30_encoding.md R93): empty but for CART_ATTACH. -/
def encodeImage : Instr → List Byte
  | .cartAttach image => image
  | _ => []

/-- The encoder: the transaction that spells a well-formed instruction (30_encoding.md R90 to R93). -/
def encode (i : Instr) : Transaction :=
  let (kind, a, d) := encodeFields i
  { word := txWord kind a d, image := encodeImage i }

/-- The transaction an opcode-table word stands for: its low `nbits` bits, no image (an empty cartridge). -/
def tableTransaction (nbits w : Nat) : Transaction :=
  { word := BitVec.ofNat 32 (w % 2 ^ nbits), image := [] }

/-- The instruction the decoder reads from an opcode-table word, none where it refuses. -/
def decodeTableWord (nbits w : Nat) : Option Instr :=
  match decode (tableTransaction nbits w) with
  | .ok i => some i
  | .error _ => none

end Sys2Proof
end

