-- ==== Sys2Proof/Machine/State.lean ====
section
/-! DEFINITION. The state of the block as plain data: the record S of 10_state.md R30, the parameters, the bytes
returned, and the environment's pending inputs; its value right after machine start (70_reset_and_hazards.md R331);
and the named ways a step can stop. -/

namespace Sys2Proof.Machine

/-- A memory as (offset, byte) pairs in one canonical form: offsets strictly rising, no entry equal to what an
unlisted offset reads as (`Memory.blank`). -/
abbrev Memory := List Host.Cell

/-- The CPU interrupt inputs (43_interrupt_lines.md R195). -/
inductive CpuLine where
  | nmi | irq | firq
deriving DecidableEq, Repr

/-- A register of a collaborator as the block addresses it (30_encoding.md R94, 20_memory.md R60). -/
inductive DevReg where
  | pia (off : BitVec 10)
  | uart (off : BitVec 10)
  /-- 0 is VRAM data, 1 is control and status. -/
  | vdp (port : BitVec 1)
  | psgStatus
  | psgAddrLatch
  | psgData
deriving DecidableEq, Repr

/-- The records of `S.hist` (10_state.md R42). -/
inductive HistRec where
  | devRead (r : DevReg) (v : Byte)
  | devWrite (r : DevReg) (v : Byte)
  | piaLine (name : String) (level : Bool)
  | cpuLine (line : CpuLine) (level : Bool)
  | yieldKbd
deriving DecidableEq, Repr

/-- A byte the block returns, and to whom: the CPU (a bus read), the PIA (a port-B query), the consumer of a
controller port (a joystick read). The model's own record of the `return` of each rule (log 6). -/
inductive Answer where
  | cpu (v : Byte)
  | pia (v : Byte)
  | joy (p : BitVec 1) (v : Byte)
deriving DecidableEq, Repr

/-- The callbacks the PIA may make while it handles a forwarded access (40_bus_dispatch.md R114). -/
inductive PiaCallback where
  | portA (v : Byte)
  | portB
  | firq (l : Bool)
deriving DecidableEq, Repr

/-- What a collaborator does with one forwarded access: the byte it answers (used by a read only) and the
callbacks it makes, in order (40_bus_dispatch.md R114, 20_memory.md R61). -/
structure Reply (κ : Type) where
  answer : Byte
  callbacks : List κ
deriving DecidableEq, Repr

/-- The environment's side, the MODEL's own: what the agents will do, as data the step reads (log 1, log 3). -/
structure Env where
  /-- The pending events of all agents, in temporal order. -/
  inbox : List Transaction
  /-- The PIA's next replies. -/
  piaReplies : List (Reply PiaCallback)
  /-- The FIRQ levels the PIA reports while it handles its next line changes (44_keyboard.md R216). -/
  lineReplies : List (List Bool)
  /-- The VDP's next replies; a callback is its IRQ level (43_interrupt_lines.md R197). -/
  vdpReplies : List (Reply Bool)
  /-- The UART's next replies; a callback is a transmitted byte (46_host_io.md R255). -/
  uartReplies : List (Reply Byte)
  /-- The PSG's next answers. -/
  psgReplies : List Byte
  /-- How many free values have been drawn. -/
  draws : Nat
deriving DecidableEq, Repr

/-- The state: the parameters, the fields of S in the order of 10_state.md R30, and the model's own three fields. -/
structure State where
  /-- The parameters of 00_scope.md section 3; no operation changes them. -/
  cfg : Config
  /-- R31. -/
  cardPresent : Bool
  /-- R32. -/
  controllerSelect : Bool
  /-- R33. -/
  keyboardDataLine : Bool
  /-- R34. -/
  keyboardClockPrev : Bool
  /-- R35. -/
  bank3Page : Nat
  /-- R36, true is asserted. -/
  nmi : Bool
  /-- R36, true is asserted. -/
  irq : Bool
  /-- R36, true is asserted. -/
  firq : Bool
  /-- R37. -/
  ram : Memory
  /-- R38. -/
  kbdBlocked : Bool
  /-- R39. -/
  started : Bool
  /-- R40. -/
  hostIn : List Byte
  /-- R41. -/
  diag : List Char
  /-- R41. -/
  serialOut : List Byte
  /-- R42. -/
  hist : List HistRec
  /-- The model's own: the bytes returned, in order. -/
  answers : List Answer
  /-- The model's own: MACHINE_START has occurred in this run (70_reset_and_hazards.md R330; log 14). -/
  created : Bool
  /-- The model's own: the environment's pending inputs. -/
  env : Env
deriving DecidableEq, Repr

/-- Why a run ends in an error. -/
inductive Fault where
  /-- MACHINE_START: an address claimed by two regions, CFG-OVERLAP (60_exceptions.md R301). Safe: the spec's own error. -/
  | configOverlap (a : Addr)
  /-- MACHINE_START: fewer than two pages, CFG-RAM (60_exceptions.md R301). Safe: the spec's own error. -/
  | configRam (ramSize : Nat)
  /-- CART_ATTACH: an image of `len` bytes is too large, CAP (60_exceptions.md R302). Safe: the spec's own error. -/
  | capacity (len : Nat)
  /-- A bank access at a store offset that does not exist, 20_memory.md R60. Safe: the spec proves it never
  happens (R72); only a state that no run reaches raises it (log 16). -/
  | outsideStore (offset : Nat)
deriving DecidableEq, Repr

/-- Why there is no step. -/
inductive Refusal where
  /-- exec: an instruction without a meaning yet. Safe. -/
  | notModelled (mnemonic : String)
  /-- step: a transaction that spells no operation (30_encoding.md R92). Safe: the spec has no step for it. -/
  | noOperation (why : Reject)
  /-- step: no agent has an event pending; the block starts no step of its own (00_scope.md R20). Safe. -/
  | noEvent
  /-- KBD_CLOCK, KBD_DATA: no keyboard decoder is fitted (44_keyboard.md R226). Safe: no step in the spec. -/
  | keyboardAbsent
  /-- KBD_CLOCK, KBD_DATA: the keyboard waits for an instruction boundary (44_keyboard.md R215). Safe: no step in the spec. -/
  | keyboardWaits
  /-- RD.UART: a debug receive waits for a host byte (46_host_io.md R258). Safe: no step in the spec. -/
  | debugReceiveWaits
  /-- step: no machine has been started; MACHINE_START is the first event of every run (70_reset_and_hazards.md R330).
  Safe: no step in the spec. -/
  | beforeMachineStart
  /-- MACHINE_START: it has occurred in this run, and occurs exactly once (70_reset_and_hazards.md R330). Safe: no step
  in the spec. -/
  | startedTwice
  /-- CART_ATTACH: the run has begun (45_cartridge.md R244). Safe: no step in the spec. -/
  | attachAfterRunBegan
  /-- CART_ATTACH: an image is attached already (45_cartridge.md R244). Safe: no step in the spec. -/
  | attachTwice
deriving DecidableEq, Repr

/-- The environment with nothing pending (log 1, log 3, log 8). -/
def Env.silent : Env :=
  { inbox := [], piaReplies := [], lineReplies := [], vdpReplies := [], uartReplies := [], psgReplies := [],
    draws := 0 }

/-- The machine right after machine start (70_reset_and_hazards.md R331), with the standard parameters and
nothing pending; its one MACHINE_START has occurred (R330). -/
def State.reset : State where
  cfg := Config.standard
  cardPresent := false
  controllerSelect := true
  keyboardDataLine := true
  keyboardClockPrev := true
  bank3Page := Config.standard.bank3Init
  nmi := false
  irq := false
  firq := false
  ram := Config.standard.ramInit
  kbdBlocked := false
  started := false
  hostIn := []
  diag := []
  serialOut := []
  hist := []
  answers := []
  created := true
  env := Env.silent

end Sys2Proof.Machine
end

