-- ==== Sys2Proof/Machine/Flags.lean ====
section
/-! DEFINITION. The computed bits: the falling edge of the keyboard clock (44_keyboard.md R218), the port-B input
byte, the block's only status register (10_state.md R48), and the controller multiplexer (42_controller_mux.md). -/

namespace Sys2Proof.Machine

/-- A falling edge: the stored level is high and the new level is low (44_keyboard.md R216, R218). -/
def fallingEdge (prev new : Bool) : Bool := prev && !new

/-- A byte with bit `i` set to `b`, the other bits unchanged. -/
def putBit (v : Byte) (i : Nat) (b : Bool) : Byte :=
  if b then v ||| (1#8 <<< i) else v &&& ~~~(1#8 <<< i)

/-- The port-B bit that carries card presence (44_keyboard.md R224). -/
def cardBit : Nat := 4

/-- The port-B input byte over a drawn byte: bit 4 is clear when a card is present, bit KBD_DATA_BIT is clear when
the data line is high, every other bit is the draw's (44_keyboard.md R223 to R225). -/
def portBByte (draw : Byte) (card dataLine : Bool) (dataBit : KbdDataBit) : Byte :=
  putBit (putBit draw cardBit (!card)) dataBit.index (!dataLine)

/-- `readPort(raw, selected)` (42_controller_mux.md R181, R182). -/
def readPort (raw : Byte) (selected : Bool) : Byte :=
  if selected then (raw &&& 0x3F) ||| 0xC0
  else ((raw &&& 0x0F) ||| ((raw &&& 0xC0) >>> 2)) ||| 0xC0

/-- The line-status byte of the debug intercept: the data-ready bit forced to 1 (46_host_io.md R259). -/
def forceDataReady (c : Config) (v : Byte) : Byte := v ||| (1#8 <<< c.uartDrBit.val)

end Sys2Proof.Machine
end

