-- ==== Sys2Proof/Machine/Operands.lean ====
section
/-! DEFINITION. The operands an access forwards (30_encoding.md R94): store offsets of the bank windows, the byte of
a ROM offset, and the characters of a diagnostic record. -/

namespace Sys2Proof.Machine

/-- The three windows of the banked memory controller (41_banked_memory.md R160). -/
inductive Bank where
  | bank1 | bank2 | bank3
deriving DecidableEq, Repr

/-- `base(bankId)` (41_banked_memory.md R161): bank1 and bank2 fixed, bank3 at its page. -/
def bankBase (b : Bank) (s : State) : Nat :=
  match b with
  | .bank1 => 0x0000
  | .bank2 => 0x4000
  | .bank3 => s.bank3Page * Config.pageSize

/-- The store offset of a window offset (41_banked_memory.md R161, 20_memory.md R72), without wrap (R169). -/
def storeOffset (b : Bank) (k : BitVec 14) (s : State) : Nat := bankBase b s + k.toNat

/-- `Rom[off]` (40_bus_dispatch.md R127): the supplied byte, a free value where the host supplied none (log 9). -/
def romByte (c : Config) (off : BitVec 13) : Byte := c.rom.getD off.toNat (Config.romFree off.toNat)

/-- The lowercase hexadecimal digits (46_host_io.md R262). -/
def hexDigits : List Char :=
  ['0', '1', '2', '3', '4', '5', '6', '7', '8', '9', 'a', 'b', 'c', 'd', 'e', 'f']

/-- `hex(n)` (46_host_io.md R262). -/
def hexDigit (n : BitVec 4) : Char := hexDigits.getD n.toNat '0'

/-- One diagnostic record: two lowercase digits, high digit first, and LF (46_host_io.md R262, R263). -/
def diagRecord (v : Byte) : List Char := [hexDigit (v.extractLsb' 4 4), hexDigit (v.extractLsb' 0 4), '\n']

end Sys2Proof.Machine
end

