-- ==== Sys2Proof/Machine/Ops.lean ====
section
/-! DEFINITION. The named operations over memory and state that the meanings share: reading and writing the RAM store,
the named updates of State, presenting an interrupt level to the CPU, the collaborators' callbacks inside a forwarded
access (40_bus_dispatch.md R114), and raising an error of initialisation.

THERE IS NO TRAP ENTRY AND NO RETURN: the block raises no trap, saves nothing, has no vector and no return operation
(60_exceptions.md R303, R305, R308). What it does about an interrupt is `State.driveLine`; what it does about an error
is `raiseError`, before the run only (R300). -/

namespace Sys2Proof.Machine

/-- The outcome of an operation of the block. -/
abbrev Result := Host.Outcome State Fault Refusal

/-! ### The RAM store -/

/-- What an offset the memory does not list reads as (log 10). -/
def Memory.blank : Byte := 0

/-- The byte at an offset. -/
def Memory.read : Memory → Nat → Byte
  | [], _ => Memory.blank
  | c :: m, a => if c.1 = a then c.2 else Memory.read m a

/-- A cell in front of a memory, dropped when it holds what an unlisted offset reads as. -/
def Memory.put (a : Nat) (v : Byte) (m : Memory) : Memory := if v = Memory.blank then m else (a, v) :: m

/-- Store a byte at an offset, keeping the canonical form. -/
def Memory.write : Memory → Nat → Byte → Memory
  | [], a, v => Memory.put a v []
  | c :: m, a, v =>
    if a < c.1 then Memory.put a v (c :: m)
    else if a = c.1 then Memory.put a v m
    else c :: Memory.write m a v

/-- Store a sequence of bytes from an offset upwards, verbatim (20_memory.md R63, 45_cartridge.md R241). -/
def Memory.load : Memory → Nat → List Byte → Memory
  | m, _, [] => m
  | m, a, b :: bs => Memory.load (Memory.write m a b) (a + 1) bs

/-- Every entry's offset is above `lo`, rising, and no entry is blank. -/
def Memory.risingFrom : Nat → Memory → Bool
  | _, [] => true
  | lo, c :: m => decide (lo ≤ c.1) && decide (c.2 ≠ Memory.blank) && Memory.risingFrom (c.1 + 1) m

/-- The canonical form holds. -/
def Memory.wf (m : Memory) : Bool := Memory.risingFrom 0 m

/-- Every entry lies in a store of `size` bytes (10_state.md R37). -/
def Memory.within (size : Nat) (m : Memory) : Bool := m.all fun c => decide (c.1 < size)

/-! ### The updates of State, one name each -/

/-- `S.started <- true` (40_bus_dispatch.md R111). -/
def State.markStarted (s : State) : State := { s with started := true }

/-- `S.cardPresent <- b` (10_state.md R31). -/
def State.setCardPresent (s : State) (b : Bool) : State := { s with cardPresent := b }

/-- `S.controllerSelect <- b` (10_state.md R32). -/
def State.setSelect (s : State) (b : Bool) : State := { s with controllerSelect := b }

/-- `S.keyboardDataLine <- b` (10_state.md R33). -/
def State.setDataLine (s : State) (b : Bool) : State := { s with keyboardDataLine := b }

/-- `S.keyboardClockPrev <- b` (10_state.md R34). -/
def State.setClockPrev (s : State) (b : Bool) : State := { s with keyboardClockPrev := b }

/-- `S.bank3Page <- p` (10_state.md R35). -/
def State.setPage (s : State) (p : Nat) : State := { s with bank3Page := p }

/-- `S.nmi`, `S.irq` or `S.firq` `<- l` (10_state.md R36). -/
def State.setLine (s : State) (line : CpuLine) (l : Bool) : State :=
  match line with
  | .nmi => { s with nmi := l }
  | .irq => { s with irq := l }
  | .firq => { s with firq := l }

/-- The level on a CPU interrupt input: the line's state field (43_interrupt_lines.md R195). -/
def State.line (s : State) : CpuLine → Bool
  | .nmi => s.nmi
  | .irq => s.irq
  | .firq => s.firq

/-- `S.ram <- m` (10_state.md R37). -/
def State.setRam (s : State) (m : Memory) : State := { s with ram := m }

/-- `S.kbdBlocked <- b` (10_state.md R38). -/
def State.setBlocked (s : State) (b : Bool) : State := { s with kbdBlocked := b }

/-- `S.hostIn <- q` (10_state.md R40). -/
def State.setHostIn (s : State) (q : List Byte) : State := { s with hostIn := q }

/-- Append characters to `S.diag`, which emits them (10_state.md R41, 46_host_io.md R262). -/
def State.emitDiag (s : State) (cs : List Char) : State := { s with diag := s.diag ++ cs }

/-- Append a byte to `S.serialOut`, which emits it (10_state.md R41, 46_host_io.md R255). -/
def State.emitSerial (s : State) (b : Byte) : State := { s with serialOut := s.serialOut ++ [b] }

/-- Append a record to `S.hist` (10_state.md R42). -/
def State.record (s : State) (r : HistRec) : State := { s with hist := s.hist ++ [r] }

/-- Return a byte: append it to the bytes returned (log 6). -/
def State.answer (s : State) (r : Answer) : State := { s with answers := s.answers ++ [r] }

/-- Record whether MACHINE_START has occurred (70_reset_and_hazards.md R330). -/
def State.setCreated (s : State) (b : Bool) : State := { s with created := b }

/-- Replace the environment's pending inputs. -/
def State.setEnv (s : State) (e : Env) : State := { s with env := e }

/-! ### The environment's pending inputs -/

/-- What the PIA does with the next access: its queued reply, or a free answer and no callback (log 3, log 8). -/
def Env.piaReply (e : Env) : Reply PiaCallback := e.piaReplies.headD ⟨Config.devAnswer e.draws, []⟩

/-- What the VDP does with the next access. -/
def Env.vdpReply (e : Env) : Reply Bool := e.vdpReplies.headD ⟨Config.devAnswer e.draws, []⟩

/-- What the UART does with the next access. -/
def Env.uartReply (e : Env) : Reply Byte := e.uartReplies.headD ⟨Config.devAnswer e.draws, []⟩

/-- What the PSG answers to the next read. -/
def Env.psgReply (e : Env) : Byte := e.psgReplies.headD (Config.devAnswer e.draws)

/-- The FIRQ levels the PIA reports while it handles the next line change. -/
def Env.lineReply (e : Env) : List Bool := e.lineReplies.headD []

/-- The PIA's reply is consumed. -/
def Env.takePia (e : Env) : Env := { e with piaReplies := e.piaReplies.tail, draws := e.draws + 1 }

/-- The VDP's reply is consumed. -/
def Env.takeVdp (e : Env) : Env := { e with vdpReplies := e.vdpReplies.tail, draws := e.draws + 1 }

/-- The UART's reply is consumed. -/
def Env.takeUart (e : Env) : Env := { e with uartReplies := e.uartReplies.tail, draws := e.draws + 1 }

/-- The PSG's answer is consumed. -/
def Env.takePsg (e : Env) : Env := { e with psgReplies := e.psgReplies.tail, draws := e.draws + 1 }

/-- The PIA's line reports are consumed. -/
def Env.takeLine (e : Env) : Env := { e with lineReplies := e.lineReplies.tail }

/-- A free value has been drawn. -/
def Env.nextDraw (e : Env) : Env := { e with draws := e.draws + 1 }

/-- The pending events become `ts`. -/
def Env.setInbox (e : Env) (ts : List Transaction) : Env := { e with inbox := ts }

/-! ### Errors, interrupt levels, bank selection, port B -/

/-- `raise` (00_scope.md section 5): an error of initialisation ends the run with the state unchanged
(60_exceptions.md R300 to R302). -/
def raiseError (f : Fault) : Result := .fault f

/-- Present a level on a CPU interrupt input, in the same step, recorded even when unchanged
(43_interrupt_lines.md R196 to R200). -/
def State.driveLine (s : State) (line : CpuLine) (l : Bool) : State := (s.setLine line l).record (.cpuLine line l)

/-- `selectBank3(v)`: a true remainder, every value legal (41_banked_memory.md R163, R169). -/
def State.selectBank3 (s : State) (v : Byte) : State := s.setPage (v.toNat % s.cfg.numBanks)

/-- Answer a port-B query from the current state, over a fresh draw (44_keyboard.md R223). -/
def State.queryPortB (s : State) : State :=
  (s.setEnv s.env.nextDraw).answer
    (.pia (portBByte (Config.portBDraw s.env.draws) s.cardPresent s.keyboardDataLine s.cfg.kbdDataBit))

/-! ### Forwarded accesses and their callbacks (40_bus_dispatch.md R114) -/

/-- One callback of the PIA, processed as its event is (R163, R223, R198). -/
def State.piaCallback (s : State) : PiaCallback → State
  | .portA v => s.selectBank3 v
  | .portB => s.queryPortB
  | .firq l => s.driveLine .firq l

/-- Hand the PIA an access: every callback it makes is processed, in order, before the access completes. -/
def State.piaAccess (s : State) : State :=
  s.env.piaReply.callbacks.foldl State.piaCallback (s.setEnv s.env.takePia)

/-- Hand the VDP an access; its callbacks are IRQ levels (43_interrupt_lines.md R197). -/
def State.vdpAccess (s : State) : State :=
  s.env.vdpReply.callbacks.foldl (fun t l => t.driveLine .irq l) (s.setEnv s.env.takeVdp)

/-- Hand the UART an access; its callbacks are transmitted bytes (46_host_io.md R255). -/
def State.uartAccess (s : State) : State :=
  s.env.uartReply.callbacks.foldl State.emitSerial (s.setEnv s.env.takeUart)

/-- Hand the PSG a read; it makes no callback. -/
def State.psgAccess (s : State) : State := s.setEnv s.env.takePsg

/-- Drive the PIA's keyboard-clock line; the FIRQ levels the PIA reports while it handles the change are processed
within the event, then the change is recorded (44_keyboard.md R216, R217). -/
def State.drivePiaLine (s : State) (l : Bool) : State :=
  (s.env.lineReply.foldl (fun t q => t.driveLine .firq q) (s.setEnv s.env.takeLine)).record
    (.piaLine s.cfg.kbdClockLine l)

/-- The end of a forwarded read: the collaborator's answer `v` is recorded and `returned` goes to the CPU
(20_memory.md R61). -/
def State.finishRead (s : State) (r : DevReg) (v returned : Byte) : State :=
  (s.record (.devRead r v)).answer (.cpu returned)

/-! ### Bus accesses to the block's own regions -/

/-- Read the store at an offset (41_banked_memory.md R161). -/
def State.storeRead (s : State) (off : Nat) : Result :=
  if off < s.cfg.ramSize then .next (s.answer (.cpu (Memory.read s.ram off))) else .fault (.outsideStore off)

/-- Write the store at an offset (41_banked_memory.md R161). -/
def State.storeWrite (s : State) (off : Nat) (v : Byte) : Result :=
  if off < s.cfg.ramSize then .next (s.setRam (Memory.write s.ram off v)) else .fault (.outsideStore off)

/-- A CPU read through a window (40_bus_dispatch.md R115 to R117). -/
def bankRead (b : Bank) (k : BitVec 14) (s : State) : Result := s.markStarted.storeRead (storeOffset b k s)

/-- A CPU write through a window (40_bus_dispatch.md R131 to R133). -/
def bankWrite (b : Bank) (k : BitVec 14) (v : Byte) (s : State) : Result :=
  s.markStarted.storeWrite (storeOffset b k s) v

/-- A read that no handler claims returns the open-bus value (40_bus_dispatch.md R112). -/
def openBusRead (s : State) : Result := .next (s.markStarted.answer (.cpu s.cfg.openBus))

/-- A write with no effect: nothing but `S.started` changes (40_bus_dispatch.md R130). -/
def noEffectWrite (s : State) : Result := .next s.markStarted

/-- A select port: the read itself sets the flip-flop and returns 0 (40_bus_dispatch.md R123 to R125). -/
def selectRead (sel : Bool) (s : State) : Result := .next ((s.markStarted.setSelect sel).answer (.cpu 0))

/-- Admission of a keyboard event (44_keyboard.md R215): without a decoder, or while the keyboard is blocked, there is
no step. -/
def ifKeyboardAdmitted (s : State) (t : State) : Result :=
  if !s.cfg.kbdPresent then .refused .keyboardAbsent
  else if s.kbdBlocked then .refused .keyboardWaits
  else .next t

/-- A falling edge forces the keyboard to yield; with the guard on it is blocked until the next instruction boundary
(44_keyboard.md R219). -/
def State.yieldKeyboard (s : State) : State := (s.record .yieldKbd).setBlocked (s.cfg.kbdSliceGuard || s.kbdBlocked)

end Sys2Proof.Machine
end

