-- ==== Sys2Proof/Machine/Banking.lean ====
section
/-! DEFINITION. The meaning of the bank-3 selection event (41_banked_memory.md R163 to R169). -/

namespace Sys2Proof.Machine

/-- PIA_PORTA_OUT (R163). -/
def execPiaPortaOut (v : Byte) (s : State) : Result := .next (s.selectBank3 v)

end Sys2Proof.Machine
end

