-- ==== Sys2Proof/Machine/BusRead.lean ====
section
/-! DEFINITION. The meanings of the bus reads (40_bus_dispatch.md R115 to R128; the debug intercept of
46_host_io.md R258 to R260). -/

namespace Sys2Proof.Machine

/-- RD.BANK1 (R115). -/
def execRdBank1 (k : BitVec 14) (s : State) : Result := bankRead .bank1 k s

/-- RD.BANK2 (R116). -/
def execRdBank2 (k : BitVec 14) (s : State) : Result := bankRead .bank2 k s

/-- RD.BANK3 (R117). -/
def execRdBank3 (k : BitVec 14) (s : State) : Result := bankRead .bank3 k s

/-- RD.PIA (R118). -/
def execRdPia (off : BitVec 10) (s : State) : Result :=
  let v := s.env.piaReply.answer
  .next (s.markStarted.piaAccess.finishRead (.pia off) v v)

/-- A UART read that is forwarded (R119); in debug mode offset 5 returns the answer with data-ready forced
(46_host_io.md R259), while the record keeps the UART's own answer. -/
def forwardedUartRead (off : BitVec 10) (s : State) : Result :=
  let v := s.env.uartReply.answer
  let returned := if s.cfg.uartDebugStdio && off == 5 then forceDataReady s.cfg v else v
  .next (s.markStarted.uartAccess.finishRead (.uart off) v returned)

/-- `DebugReceive()` (46_host_io.md R258): the head of the host's bytes, or a wait. -/
def debugReceive (s : State) : Result :=
  match s.hostIn with
  | [] => .refused .debugReceiveWaits
  | b :: bs => .next ((s.markStarted.setHostIn bs).answer (.cpu b))

/-- RD.UART (R119): the debug intercept matches offsets 0 and 5 exactly (46_host_io.md R260). -/
def execRdUart (off : BitVec 10) (s : State) : Result :=
  if s.cfg.uartDebugStdio && off == 0 then debugReceive s else forwardedUartRead off s

/-- RD.VDP (R120). -/
def execRdVdp (port : BitVec 1) (s : State) : Result :=
  let v := s.env.vdpReply.answer
  .next (s.markStarted.vdpAccess.finishRead (.vdp port) v v)

/-- RD.PSG_STATUS (R121). -/
def execRdPsgStatus (s : State) : Result :=
  let v := s.env.psgReply
  .next (s.markStarted.psgAccess.finishRead .psgStatus v v)

/-- RD.PSG_DATA (R122): open bus, not forwarded. -/
def execRdPsgData (s : State) : Result := openBusRead s

/-- RD.SEL_CLR (R123). -/
def execRdSelClr (s : State) : Result := selectRead false s

/-- RD.SEL_SET (R124). -/
def execRdSelSet (s : State) : Result := selectRead true s

/-- RD.DIAG (R126): open bus, emits nothing. -/
def execRdDiag (_port : BitVec 1) (s : State) : Result := openBusRead s

/-- RD.ROM (R127). -/
def execRdRom (off : BitVec 13) (s : State) : Result := .next (s.markStarted.answer (.cpu (romByte s.cfg off)))

/-- RD.UNMAPPED (R128). -/
def execRdUnmapped (_a : Addr) (s : State) : Result := openBusRead s

end Sys2Proof.Machine
end

