-- ==== Sys2Proof/Machine/BusWrite.lean ====
section
/-! DEFINITION. The meanings of the bus writes (40_bus_dispatch.md R130 to R143). -/

namespace Sys2Proof.Machine

/-- WR.BANK1 (R131). -/
def execWrBank1 (k : BitVec 14) (v : Byte) (s : State) : Result := bankWrite .bank1 k v s

/-- WR.BANK2 (R132). -/
def execWrBank2 (k : BitVec 14) (v : Byte) (s : State) : Result := bankWrite .bank2 k v s

/-- WR.BANK3 (R133). -/
def execWrBank3 (k : BitVec 14) (v : Byte) (s : State) : Result := bankWrite .bank3 k v s

/-- WR.PIA (R134). -/
def execWrPia (off : BitVec 10) (v : Byte) (s : State) : Result :=
  .next (s.markStarted.piaAccess.record (.devWrite (.pia off) v))

/-- WR.UART (R135). -/
def execWrUart (off : BitVec 10) (v : Byte) (s : State) : Result :=
  .next (s.markStarted.uartAccess.record (.devWrite (.uart off) v))

/-- WR.VDP (R136). -/
def execWrVdp (port : BitVec 1) (v : Byte) (s : State) : Result :=
  .next (s.markStarted.vdpAccess.record (.devWrite (.vdp port) v))

/-- WR.PSG_ADDR (R137). -/
def execWrPsgAddr (v : Byte) (s : State) : Result := .next (s.markStarted.record (.devWrite .psgAddrLatch v))

/-- WR.PSG_DATA (R138). -/
def execWrPsgData (v : Byte) (s : State) : Result := .next (s.markStarted.record (.devWrite .psgData v))

/-- WR.SEL_CLR (R139). -/
def execWrSelClr (_v : Byte) (s : State) : Result := noEffectWrite s

/-- WR.SEL_SET (R140). -/
def execWrSelSet (_v : Byte) (s : State) : Result := noEffectWrite s

/-- WR.DIAG (R141, 46_host_io.md R262): both addresses are the same sink (R261). -/
def execWrDiag (_port : BitVec 1) (v : Byte) (s : State) : Result := .next (s.markStarted.emitDiag (diagRecord v))

/-- WR.ROM (R142). -/
def execWrRom (_off : BitVec 13) (_v : Byte) (s : State) : Result := noEffectWrite s

/-- WR.UNMAPPED (R143). -/
def execWrUnmapped (_a : Addr) (_v : Byte) (s : State) : Result := noEffectWrite s

end Sys2Proof.Machine
end

