-- ==== Sys2Proof/Machine/Cartridge.lean ====
section
/-! DEFINITION. The meaning of the cartridge attach (45_cartridge.md R240 to R245). -/

namespace Sys2Proof.Machine

/-- `L > RAM_SIZE - 0x0100` (R242), written without a subtraction. -/
def imageTooLarge (c : Config) (len : Nat) : Bool := decide (c.ramSize < Config.cartBase + len)

/-- CART_ATTACH (R240): once, before the run (R244), refused or copied as a whole (R242). -/
def execCartAttach (image : List Byte) (s : State) : Result :=
  if s.started then .refused .attachAfterRunBegan
  else if s.cardPresent then .refused .attachTwice
  else if imageTooLarge s.cfg image.length then raiseError (.capacity image.length)
  else .next ((s.setRam (Memory.load s.ram Config.cartBase image)).setCardPresent true)

end Sys2Proof.Machine
end

