-- ==== Sys2Proof/Machine/HostIo.lean ====
section
/-! DEFINITION. The meanings of the serial events (46_host_io.md R255 to R257). -/

namespace Sys2Proof.Machine

/-- UART_TX (R255). -/
def execUartTx (b : Byte) (s : State) : Result := .next (s.emitSerial b)

/-- HOST_SERIAL_IN (R257): accepted in either mode (R256), without bound. -/
def execHostSerialIn (b : Byte) (s : State) : Result := .next (s.setHostIn (s.hostIn ++ [b]))

end Sys2Proof.Machine
end

