-- ==== Sys2Proof/Machine/Joystick.lean ====
section
/-! DEFINITION. The meaning of the joystick read through the multiplexer (42_controller_mux.md R180 to R188). -/

namespace Sys2Proof.Machine

/-- JOY_READ (R185): the port index only says whose snapshot this is. -/
def execJoyRead (p : BitVec 1) (raw : Byte) (s : State) : Result :=
  .next (s.answer (.joy p (readPort raw s.controllerSelect)))

end Sys2Proof.Machine
end

