-- ==== Sys2Proof/Machine/Keyboard.lean ====
section
/-! DEFINITION. The meanings of the keyboard events, the instruction boundary and the port-B query
(44_keyboard.md R215 to R228). -/

namespace Sys2Proof.Machine

/-- A clock level that has been admitted (R216): store the level, forward it, yield on a falling edge against the
level stored before. -/
def clockLevel (l : Bool) (s : State) : State :=
  let forwarded := (s.setClockPrev l).drivePiaLine l
  if fallingEdge s.keyboardClockPrev l then forwarded.yieldKeyboard else forwarded

/-- KBD_CLOCK (R216). -/
def execKbdClock (l : Bool) (s : State) : Result := ifKeyboardAdmitted s (clockLevel l s)

/-- KBD_DATA (R221). -/
def execKbdData (l : Bool) (s : State) : Result := ifKeyboardAdmitted s (s.setDataLine l)

/-- CPU_BOUNDARY (R220): the slice ends. -/
def execCpuBoundary (s : State) : Result := .next (s.markStarted.setBlocked false)

/-- PIA_PORTB_IN (R223). -/
def execPiaPortbIn (s : State) : Result := .next s.queryPortB

end Sys2Proof.Machine
end

