-- ==== Sys2Proof/Machine/Lines.lean ====
section
/-! DEFINITION. The meanings of the interrupt-line events (43_interrupt_lines.md R195 to R204). -/

namespace Sys2Proof.Machine

/-- SVC_NMI_LEVEL (R196). -/
def execSvcNmiLevel (l : Bool) (s : State) : Result := .next (s.driveLine .nmi l)

/-- VDP_IRQ_LEVEL (R197). -/
def execVdpIrqLevel (l : Bool) (s : State) : Result := .next (s.driveLine .irq l)

/-- PIA_FIRQ_LEVEL (R198). -/
def execPiaFirqLevel (l : Bool) (s : State) : Result := .next (s.driveLine .firq l)

end Sys2Proof.Machine
end

