-- ==== Sys2Proof/Machine/Start.lean ====
section
/-! DEFINITION. The meaning of machine start (70_reset_and_hazards.md R330, R331) and its configuration check
(60_exceptions.md R301, R307). -/

namespace Sys2Proof.Machine

/-- The configuration check: the overlap check before the RAM check (60_exceptions.md R301, R307). -/
def configError (c : Config) : Option Fault :=
  match mapOverlap busMap with
  | some a => some (.configOverlap a)
  | none => if c.numBanks < 2 then some (.configRam c.ramSize) else none

/-- Every field of S at its machine-start value (R330, R331), under parameters `c`, its machine start done; what the
environment has pending is the environment's, and stays. -/
def freshState (c : Config) (e : Env) : State where
  cfg := c
  cardPresent := false
  controllerSelect := true
  keyboardDataLine := true
  keyboardClockPrev := true
  bank3Page := c.bank3Init
  nmi := false
  irq := false
  firq := false
  ram := c.ramInit
  kbdBlocked := false
  started := false
  hostIn := []
  diag := []
  serialOut := []
  hist := []
  answers := []
  created := true
  env := e

/-- MACHINE_START (R330): exactly once in a run, so a second one has no step; otherwise the configuration is checked
and every field of S set. That it is the first event is `processEvent`'s. -/
def execMachineStart (s : State) : Result :=
  if s.created then .refused .startedTwice
  else match configError s.cfg with
    | some f => raiseError f
    | none => .next (freshState s.cfg s.env)

end Sys2Proof.Machine
end

