-- ==== Sys2Proof/Machine/Dispatch.lean ====
section
/-! DEFINITION. The meaning of every operation, one arm per constructor of Instr. -/

namespace Sys2Proof.Machine

/-- One operation of the block (30_encoding.md R91). -/
def exec (i : Instr) (s : State) : Host.Outcome State Fault Refusal :=
  match i with
  | .rdBank1 k => Sys2Proof.Machine.execRdBank1 k s
  | .rdBank2 k => Sys2Proof.Machine.execRdBank2 k s
  | .rdBank3 k => Sys2Proof.Machine.execRdBank3 k s
  | .rdPia off => Sys2Proof.Machine.execRdPia off s
  | .rdUart off => Sys2Proof.Machine.execRdUart off s
  | .rdVdp port => Sys2Proof.Machine.execRdVdp port s
  | .rdPsgStatus => Sys2Proof.Machine.execRdPsgStatus s
  | .rdPsgData => Sys2Proof.Machine.execRdPsgData s
  | .rdSelClr => Sys2Proof.Machine.execRdSelClr s
  | .rdSelSet => Sys2Proof.Machine.execRdSelSet s
  | .rdDiag port => Sys2Proof.Machine.execRdDiag port s
  | .rdRom off => Sys2Proof.Machine.execRdRom off s
  | .rdUnmapped a => Sys2Proof.Machine.execRdUnmapped a s
  | .wrBank1 k v => Sys2Proof.Machine.execWrBank1 k v s
  | .wrBank2 k v => Sys2Proof.Machine.execWrBank2 k v s
  | .wrBank3 k v => Sys2Proof.Machine.execWrBank3 k v s
  | .wrPia off v => Sys2Proof.Machine.execWrPia off v s
  | .wrUart off v => Sys2Proof.Machine.execWrUart off v s
  | .wrVdp port v => Sys2Proof.Machine.execWrVdp port v s
  | .wrPsgAddr v => Sys2Proof.Machine.execWrPsgAddr v s
  | .wrPsgData v => Sys2Proof.Machine.execWrPsgData v s
  | .wrSelClr v => Sys2Proof.Machine.execWrSelClr v s
  | .wrSelSet v => Sys2Proof.Machine.execWrSelSet v s
  | .wrDiag port v => Sys2Proof.Machine.execWrDiag port v s
  | .wrRom off v => Sys2Proof.Machine.execWrRom off v s
  | .wrUnmapped a v => Sys2Proof.Machine.execWrUnmapped a v s
  | .cpuBoundary => Sys2Proof.Machine.execCpuBoundary s
  | .piaPortaOut v => Sys2Proof.Machine.execPiaPortaOut v s
  | .piaPortbIn => Sys2Proof.Machine.execPiaPortbIn s
  | .piaFirqLevel l => Sys2Proof.Machine.execPiaFirqLevel l s
  | .vdpIrqLevel l => Sys2Proof.Machine.execVdpIrqLevel l s
  | .svcNmiLevel l => Sys2Proof.Machine.execSvcNmiLevel l s
  | .kbdClock l => Sys2Proof.Machine.execKbdClock l s
  | .kbdData l => Sys2Proof.Machine.execKbdData l s
  | .joyRead p raw => Sys2Proof.Machine.execJoyRead p raw s
  | .uartTx b => Sys2Proof.Machine.execUartTx b s
  | .hostSerialIn b => Sys2Proof.Machine.execHostSerialIn b s
  | .cartAttach image => Sys2Proof.Machine.execCartAttach image s
  | .machineStart => Sys2Proof.Machine.execMachineStart s

end Sys2Proof.Machine
end

