-- ==== Sys2Proof/Machine/Schedule.lean ====
section
/-! DEFINITION. The admission of an event (70_reset_and_hazards.md R330) and which pending event is processed next
(R341, 60_exceptions.md R304): the events stand in temporal order; an agent whose event is not admitted now waits, its
own later events behind it, while the other agents go on (log 2). -/

namespace Sys2Proof.Machine

/-- The agents that cause steps (00_scope.md R20). -/
inductive Agent where
  | cpu | pia | vdp | uart | serviceKey | keyboard | joystick | host
deriving DecidableEq, Repr

/-- The agent of an operation (00_scope.md R20, R22). -/
def agentOf : Instr → Agent
  | .rdBank1 _ | .rdBank2 _ | .rdBank3 _ | .rdPia _ | .rdUart _ | .rdVdp _ | .rdPsgStatus | .rdPsgData
  | .rdSelClr | .rdSelSet | .rdDiag _ | .rdRom _ | .rdUnmapped _ | .wrBank1 _ _ | .wrBank2 _ _ | .wrBank3 _ _
  | .wrPia _ _ | .wrUart _ _ | .wrVdp _ _ | .wrPsgAddr _ | .wrPsgData _ | .wrSelClr _ | .wrSelSet _
  | .wrDiag _ _ | .wrRom _ _ | .wrUnmapped _ _ | .cpuBoundary => .cpu
  | .piaPortaOut _ | .piaPortbIn | .piaFirqLevel _ => .pia
  | .vdpIrqLevel _ => .vdp
  | .svcNmiLevel _ => .serviceKey
  | .kbdClock _ | .kbdData _ => .keyboard
  | .joyRead _ _ => .joystick
  | .uartTx _ => .uart
  | .hostSerialIn _ | .cartAttach _ | .machineStart => .host

/-- The two waits that a later event lifts (60_exceptions.md R304). -/
def isWait : Result → Bool
  | .refused .keyboardWaits => true
  | .refused .debugReceiveWaits => true
  | _ => false

/-- The event that creates the machine. -/
def isMachineStart : Instr → Bool
  | .machineStart => true
  | _ => false

/-- An event in its run: MACHINE_START is the first event of every run, so before it no other event has a step
(70_reset_and_hazards.md R330). -/
def processEvent (i : Instr) (s : State) : Result :=
  if s.created || isMachineStart i then exec i s else .refused .beforeMachineStart

/-- The first pending event of an agent that is not waiting, and the events that stay pending, in their order. -/
def pickEvent (s : State) : List Agent → List Transaction → Option (Transaction × List Transaction)
  | _, [] => none
  | waiting, t :: ts =>
    match decode t with
    | .error _ => some (t, ts)
    | .ok i =>
      if waiting.contains (agentOf i) || isWait (processEvent i s) then
        match pickEvent s (agentOf i :: waiting) ts with
        | none => none
        | some (u, us) => some (u, t :: us)
      else some (t, ts)

/-- The next event. When every agent with a pending event waits there is no step: the first event then says why. -/
def nextEvent (s : State) : Option (Transaction × List Transaction) :=
  match s.env.inbox with
  | [] => none
  | t :: ts =>
    match pickEvent s [] (t :: ts) with
    | none => some (t, ts)
    | some picked => some picked

/-- The state in which an event is processed: the event is no longer pending. -/
def State.taking (s : State) (rest : List Transaction) : State := s.setEnv (s.env.setInbox rest)

/-- Whether a transaction is a MACHINE_START. -/
def spellsMachineStart (t : Transaction) : Bool :=
  match decode t with
  | .ok i => isMachineStart i
  | .error _ => false

/-- The state in which `t` is the one pending event, at the point of a run where its kind is admitted
(70_reset_and_hazards.md R330): a MACHINE_START before the machine is created, any other event after (log 1). -/
def State.offering (s : State) (t : Transaction) : State :=
  (s.setEnv (s.env.setInbox [t])).setCreated (!spellsMachineStart t)

end Sys2Proof.Machine
end

