-- ==== Sys2Proof/Machine/Step.lean ====
section
/-! DEFINITION. One step: the next pending event is decoded and processed completely (00_scope.md R21,
20_memory.md R65). -/

namespace Sys2Proof.Machine

/-- One step of the block. -/
def step (s : State) : Host.Outcome State Fault Refusal :=
  match nextEvent s with
  | none => .refused .noEvent
  | some (t, rest) =>
    match decode t with
    | .error why => .refused (.noOperation why)
    | .ok i => processEvent i (s.taking rest)

/-- The state with the opcode-table word `w` as its one pending event (log 1). -/
def State.withFetchWord (s : State) (nbits w : Nat) : State := s.offering (tableTransaction nbits w)

end Sys2Proof.Machine
end

