-- ==== Sys2Proof/Safety.lean ====
section
/-! DEFINITION. What a legal state is (10_state.md R51 and the rules it collects), and the terms the statements use. -/

namespace Sys2Proof.Machine

/-- The domain of the parameters: at least two pages (00_scope.md R8), RAM_INIT a content of the store (R11). -/
structure LegalConfig (c : Config) : Prop where
  pages : 2 ≤ c.numBanks
  ramInitForm : Memory.wf c.ramInit = true
  ramInitWithin : Memory.within c.ramSize c.ramInit = true

/-- A character a record's digit may be (46_host_io.md R262). -/
def isHexDigit (c : Char) : Bool := hexDigits.contains c

/-- A sequence of complete diagnostic records: two lowercase hexadecimal digits and LF each (10_state.md R51). -/
def wholeRecords : List Char → Bool
  | [] => true
  | a :: b :: c :: cs => isHexDigit a && isHexDigit b && (c == '\n') && wholeRecords cs
  | [_] => false
  | [_, _] => false

/-- The invariant of 10_state.md R51, with the form of the memory, R226 and the domain of the parameters. -/
structure State.Legal (s : State) : Prop where
  config : LegalConfig s.cfg
  /-- R35: the page is in range. -/
  page : s.bank3Page < s.cfg.numBanks
  ramForm : Memory.wf s.ram = true
  /-- R37: the store has RAM_SIZE bytes. -/
  ramWithin : Memory.within s.cfg.ramSize s.ram = true
  /-- R51: blocked only with the guard on and a keyboard fitted. -/
  blocked : s.kbdBlocked = true → s.cfg.kbdSliceGuard = true ∧ s.cfg.kbdPresent = true
  /-- R226: without a decoder both keyboard lines keep their machine-start level. -/
  idle : s.cfg.kbdPresent = false → s.keyboardDataLine = true ∧ s.keyboardClockPrev = true
  /-- R51: the diagnostic stream is made of whole records. -/
  records : wholeRecords s.diag = true

/-- The byte of the store at an offset. -/
def State.ramByte (s : State) (off : Nat) : Byte := Memory.read s.ram off

/-- `MemRead(a, 1)` (40_bus_dispatch.md R110): the CPU reads address `a`. -/
def memRead (a : Addr) (s : State) : Result := exec (busRead a) s

/-- `MemWrite(a, 1, v)` (40_bus_dispatch.md R110): the CPU writes `v` to address `a`. -/
def memWrite (a : Addr) (v : Byte) (s : State) : Result := exec (busWrite a v) s

/-- The port-A values among the PIA's callbacks, in order (41_banked_memory.md R163). -/
def portAReports : List PiaCallback → List Byte
  | [] => []
  | .portA v :: cs => v :: portAReports cs
  | .portB :: cs => portAReports cs
  | .firq _ :: cs => portAReports cs

/-- The FIRQ levels among the PIA's callbacks, in order (43_interrupt_lines.md R198). -/
def firqReports : List PiaCallback → List Bool
  | [] => []
  | .portA _ :: cs => firqReports cs
  | .portB :: cs => firqReports cs
  | .firq l :: cs => l :: firqReports cs

/-- How many port-B queries are among the PIA's callbacks (44_keyboard.md R223). -/
def portBQueries : List PiaCallback → Nat
  | [] => 0
  | .portA _ :: cs => portBQueries cs
  | .portB :: cs => portBQueries cs + 1
  | .firq _ :: cs => portBQueries cs

/-- The page after a sequence of port-A reports: the last one's value modulo NUM_BANKS (41_banked_memory.md R163). -/
def pageAfter (c : Config) : Nat → List Byte → Nat
  | page, [] => page
  | _, v :: vs => pageAfter c (v.toNat % c.numBanks) vs

/-- The level after a sequence of reports: the last one's (43_interrupt_lines.md R199). -/
def levelAfter : Bool → List Bool → Bool
  | level, [] => level
  | _, l :: ls => levelAfter l ls

/-- The records of a sequence of reports on one line, one each (43_interrupt_lines.md R199, R200). -/
def lineRecords (line : CpuLine) (reports : List Bool) : List HistRec := reports.map (.cpuLine line)

/-- A byte the block may answer to a port-B query in a state: the two defined bits are right (44_keyboard.md R224,
R225), the others are free. -/
def isPortBByte (s : State) (b : Byte) : Prop :=
  b.getLsbD cardBit = !s.cardPresent ∧ b.getLsbD s.cfg.kbdDataBit.index = !s.keyboardDataLine

/-- The operations that are CPU events (10_state.md R39). -/
def isCpuEvent (i : Instr) : Bool := agentOf i == .cpu

/-- The kinds of 30_encoding.md R91, each with the bits of ADDR and of DATA it uses. -/
def kindTable : List (Byte × Addr × Byte) :=
  [ (0x00, 0xFFFF, 0x00), (0x01, 0xFFFF, 0xFF), (0x02, 0, 0), (0x10, 0, 0xFF), (0x11, 0, 0), (0x12, 0, 1),
    (0x20, 0, 1), (0x30, 0, 1), (0x40, 0, 1), (0x41, 0, 1), (0x50, 1, 0xFF), (0x60, 0, 0xFF), (0x61, 0, 0xFF),
    (0x70, 0, 0), (0x7F, 0, 0) ]

/-- A word spells an operation: its KIND is in the table of R91 and every bit not listed as used is zero. -/
def spellsOperation (w : TxWord) : Prop :=
  ∃ r ∈ kindTable, kindField w = r.1 ∧ addrField w &&& ~~~r.2.1 = 0 ∧ dataField w &&& ~~~r.2.2 = 0

/-- The address map of 20_memory.md R69: first address, last address, region, both ends inclusive. -/
def mapRanges : List (Nat × Nat × Region) :=
  [ (0x0000, 0x3FFF, .bank1), (0x4000, 0x7FFF, .bank2), (0x8000, 0xBFFF, .bank3), (0xC000, 0xC3FF, .pia),
    (0xC400, 0xC7FF, .uart), (0xC800, 0xCBFF, .unmapped), (0xCC00, 0xCC01, .vdp), (0xCC02, 0xCC02, .psgA),
    (0xCC03, 0xCC03, .psgD), (0xCC04, 0xCC05, .unmapped), (0xCC06, 0xCC06, .selClr), (0xCC07, 0xCC0D, .unmapped),
    (0xCC0E, 0xCC0E, .selSet), (0xCC0F, 0xCCFF, .unmapped), (0xCD00, 0xCD01, .diag), (0xCD02, 0xDFFF, .unmapped),
    (0xE000, 0xFFFF, .rom) ]

/-- A sequence of operations, each completed before the next (00_scope.md R21); none when one of them does not
give a next state. -/
def execAll : List Instr → State → Option State
  | [], s => some s
  | i :: is, s =>
    match exec i s with
    | .next t => execAll is t
    | .fault _ => none
    | .refused _ => none

/-- How many keyboard falling edges the history records: one yield each (44_keyboard.md R216, R219). -/
def yields (s : State) : Nat := s.hist.count .yieldKbd

/-- How many high-to-low transitions a sequence of levels makes, from a stored level (44_keyboard.md R228). -/
def fallingEdges : Bool → List Bool → Nat
  | _, [] => 0
  | prev, l :: ls => (if prev = true ∧ l = false then 1 else 0) + fallingEdges l ls

/-- The store offset an operation stores to through a window (40_bus_dispatch.md R131 to R133). -/
def storedOffset (i : Instr) (s : State) : Option Nat :=
  match i with
  | .wrBank1 k _ => some (storeOffset .bank1 k s)
  | .wrBank2 k _ => some (storeOffset .bank2 k s)
  | .wrBank3 k _ => some (storeOffset .bank3 k s)
  | _ => none

/-- The operations that write the RAM store as a whole: the cartridge attach and machine start. -/
def isInitialisation : Instr → Bool
  | .cartAttach _ => true
  | .machineStart => true
  | _ => false

/-- The operation that reads a window offset (41_banked_memory.md R161). -/
def windowRead (b : Bank) (k : BitVec 14) : Instr :=
  match b with
  | .bank1 => .rdBank1 k
  | .bank2 => .rdBank2 k
  | .bank3 => .rdBank3 k

/-- The operation that writes a window offset (41_banked_memory.md R161). -/
def windowWrite (b : Bank) (k : BitVec 14) (v : Byte) : Instr :=
  match b with
  | .bank1 => .wrBank1 k v
  | .bank2 => .wrBank2 k v
  | .bank3 => .wrBank3 k v

/-- No operation of a sequence stores to the store offset `a`, each taken in the state it runs in, and none is an
initialisation. -/
def leavesAlone (a : Nat) : List Instr → State → Prop
  | [], _ => True
  | i :: is, s =>
    isInitialisation i = false ∧ storedOffset i s ≠ some a ∧ ∀ t, exec i s = .next t → leavesAlone a is t

/-- The errors of initialisation (60_exceptions.md R300). -/
def isInitError : Fault → Bool
  | .configOverlap _ => true
  | .configRam _ => true
  | .capacity _ => true
  | .outsideStore _ => false

end Sys2Proof.Machine
end

