-- ==== Sys2Proof/WellFormed.lean ====
section
/-! DEFINITION. Which terms of Instr are operations of the block. Every operand but one has exactly the bits its
row leaves free; only the address of an unmapped access is constrained (30_encoding.md R97, 40_bus_dispatch.md R128). -/

namespace Sys2Proof

/-- The unmapped addresses, range by range as 40_bus_dispatch.md R128 and R143 list them (20_memory.md R69). -/
def unmappedAddr (a : Addr) : Bool :=
  let n := a.toNat
  (0xC800 ≤ n && n ≤ 0xCBFF) || (0xCC04 ≤ n && n ≤ 0xCC05) || (0xCC07 ≤ n && n ≤ 0xCC0D)
    || (0xCC0F ≤ n && n ≤ 0xCCFF) || (0xCD02 ≤ n && n ≤ 0xDFFF)

/-- An instruction is well formed when the address of an unmapped access is an unmapped address. -/
def wellFormed : Instr → Bool
  | .rdUnmapped a => unmappedAddr a
  | .wrUnmapped a _ => unmappedAddr a
  | .rdBank1 _ | .rdBank2 _ | .rdBank3 _ | .rdPia _ | .rdUart _ | .rdVdp _ | .rdPsgStatus | .rdPsgData
  | .rdSelClr | .rdSelSet | .rdDiag _ | .rdRom _ | .wrBank1 _ _ | .wrBank2 _ _ | .wrBank3 _ _ | .wrPia _ _
  | .wrUart _ _ | .wrVdp _ _ | .wrPsgAddr _ | .wrPsgData _ | .wrSelClr _ | .wrSelSet _ | .wrDiag _ _
  | .wrRom _ _ | .cpuBoundary | .piaPortaOut _ | .piaPortbIn | .piaFirqLevel _ | .vdpIrqLevel _
  | .svcNmiLevel _ | .kbdClock _ | .kbdData _ | .joyRead _ _ | .uartTx _ | .hostSerialIn _ | .cartAttach _
  | .machineStart => true

end Sys2Proof
end

