-- ==== Sys2Proof/Certificates/Slice0/Obligations.lean ====
section
/-! DEFINITION. The statements for the provers. A next state is written out as a record over the state before, so
everything not named in it is unchanged: that is the frame. The fields `answers` and `env` are the model's own
(log 1, 3, 6): a byte appended to `answers` is the byte the rule returns. -/

open Sys2Proof Sys2Proof.Machine

/-! ### Encoding -/

/-- 30_encoding.md R90 to R97: no bit of an operand is dropped; every operand at every value. -/
def Obligations.DecodeOfEncodeIsSameInstr : Prop :=
  ∀ i : Instr, wellFormed i = true → decode (encode i) = .ok i

/-- 30_encoding.md R90 to R97: a transaction has one reading, and what is read is well formed. -/
def Obligations.EncodeOfDecodeIsSameTransaction : Prop :=
  ∀ (t : Transaction) (i : Instr), decode t = .ok i → encode i = t ∧ wellFormed i = true

/-- 30_encoding.md R92: exactly the words of R91's table spell an operation; when another word is next there is no
step. -/
def Obligations.OtherWordsSpellNoOperation : Prop :=
  (∀ w : TxWord, (∃ i, decode ⟨w, []⟩ = .ok i) ↔ spellsOperation w) ∧
  (∀ (s : State) (w : TxWord) (rest : List Transaction), nextEvent s = some (⟨w, []⟩, rest) →
    ¬ spellsOperation w → ∃ why, step s = .refused (.noOperation why))

/-- 95_test_vectors.md section 2.1: words written out from the spec's encoding. -/
def Obligations.SpecWordsDecode : Prop :=
  decode ⟨0x00BFFF00, []⟩ = .ok (.rdBank3 0x3FFF) ∧
  decode ⟨0x00CC0600, []⟩ = .ok .rdSelClr ∧
  decode ⟨0x01CD00AB, []⟩ = .ok (.wrDiag 0 0xAB) ∧
  decode ⟨0x01CD01AB, []⟩ = .ok (.wrDiag 1 0xAB) ∧
  decode ⟨0x5000019C, []⟩ = .ok (.joyRead 1 0x9C) ∧
  decode ⟨0x00D00000, []⟩ = .ok (.rdUnmapped 0xD000) ∧
  decode ⟨0x01FFFF12, []⟩ = .ok (.wrRom 0x1FFF 0x12) ∧
  decode ⟨0x12000001, []⟩ = .ok (.piaFirqLevel true) ∧
  decode ⟨0x40000000, []⟩ = .ok (.kbdClock false) ∧
  decode ⟨0x70000000, [0x12, 0x34]⟩ = .ok (.cartAttach [0x12, 0x34]) ∧
  decode ⟨0x7F000000, []⟩ = .ok .machineStart

/-- 30_encoding.md R96: a row's addresses are its region's, pairwise disjoint, the rest unmapped; and the regions are
the inclusive ranges of its last column (as 20_memory.md R69 lists them). -/
def Obligations.RegionsAreTheMapsRanges : Prop :=
  (∀ r ∈ busMap, ∀ a : Addr, r.claims a = true ↔ region a = r.region) ∧
  (∀ r ∈ busMap, ∀ q ∈ busMap, ∀ a : Addr, r.claims a = true → q.claims a = true → r = q) ∧
  (∀ a : Addr, region a = .unmapped ↔ ∀ r ∈ busMap, r.claims a = false) ∧
  (∀ row ∈ mapRanges, ∀ a : Addr, row.1 ≤ a.toNat → a.toNat ≤ row.2.1 → region a = row.2.2) ∧
  (∀ a : Addr, ∃ row ∈ mapRanges, row.1 ≤ a.toNat ∧ a.toNat ≤ row.2.1)

/-- 60_exceptions.md R301 (a): the overlap check finds an overlap exactly when there is one, and names the first
address claimed twice. The rows compare only bits under their mask. -/
def Obligations.OverlapCheckFindsFirstSharedAddress : Prop :=
  ∀ m : List MapRow, (∀ r ∈ m, r.pattern &&& r.mask = r.pattern) →
    (mapOverlap m = none ↔ m.Pairwise fun r q => ∀ a : Addr, ¬ (r.claims a = true ∧ q.claims a = true)) ∧
    (∀ a, mapOverlap m = some a →
      (¬ m.Pairwise fun r q => ¬ (r.claims a = true ∧ q.claims a = true)) ∧
      ∀ b : Addr, b.toNat < a.toNat → m.Pairwise fun r q => ¬ (r.claims b = true ∧ q.claims b = true))

/-! ### Steps and agents -/

/-- A step runs the decoded instruction: when the next event decodes to a well-formed instruction and the machine is
created, or the event creates it (70_reset_and_hazards.md R330), the step is its meaning, in the state where that event
is no longer pending; the first pending event is next unless it waits. The pending events are the model's own form
(log 1, log 2). -/
def Obligations.StepRunsTheDecodedInstr : Prop :=
  (∀ (s : State) (t : Transaction) (rest : List Transaction) (i : Instr),
    nextEvent s = some (t, rest) → decode t = .ok i → wellFormed i = true →
    s.created = true ∨ i = .machineStart →
    step s = exec i { s with env := { s.env with inbox := rest } }) ∧
  (∀ (s : State) (t : Transaction) (rest : List Transaction) (i : Instr),
    s.env.inbox = t :: rest → decode t = .ok i → isWait (exec i s) = false → nextEvent s = some (t, rest))

/-- 60_exceptions.md R304, 70_reset_and_hazards.md R341: an event that waits keeps its place while the next event of
another agent is processed; the waiting agent's own next event does not overtake it (log 2). -/
def Obligations.WaitingAgentLetsOthersGoOn : Prop :=
  ∀ (s : State) (t u : Transaction) (rest : List Transaction) (i j : Instr),
    s.created = true → s.env.inbox = t :: u :: rest → decode t = .ok i → decode u = .ok j →
    isWait (exec i s) = true → isWait (exec j s) = false →
    (agentOf j ≠ agentOf i →
      step s = exec j { s with env := { s.env with inbox := t :: rest } }) ∧
    (agentOf j = agentOf i → nextEvent s ≠ some (u, t :: rest))

/-- 60_exceptions.md R304: a keyboard wait is lifted by an instruction boundary, a debug receive by a host byte; a late
attach is refused, and stays refused after any operation but a machine start. -/
def Obligations.WaitsAreLiftedByTheirEvents : Prop :=
  (∀ (s t : State) (l : Bool), s.cfg.kbdPresent = true → s.kbdBlocked = true → exec .cpuBoundary s = .next t →
    exec (.kbdClock l) s = .refused .keyboardWaits ∧ exec (.kbdData l) s = .refused .keyboardWaits ∧
    (∃ u, exec (.kbdClock l) t = .next u) ∧ (∃ u, exec (.kbdData l) t = .next u)) ∧
  (∀ (s t : State) (b : Byte), s.cfg.uartDebugStdio = true → s.hostIn = [] → exec (.hostSerialIn b) s = .next t →
    exec (.rdUart 0) s = .refused .debugReceiveWaits ∧
    ∃ u, exec (.rdUart 0) t = .next u ∧ u.answers = s.answers ++ [.cpu b] ∧ u.hostIn = []) ∧
  (∀ (s t : State) (i : Instr) (image : List Byte), s.started = true → i ≠ .machineStart → exec i s = .next t →
    exec (.cartAttach image) s = .refused .attachAfterRunBegan ∧
    exec (.cartAttach image) t = .refused .attachAfterRunBegan)

/-! ### Machine start and legal states -/

/-- 70_reset_and_hazards.md R331: every field after MACHINE_START. The form of the two draws, the store as the parameter
ramInit (log 10) and the page as bank3Draw modulo NUM_BANKS (log 11), and the field `created` (log 14) are the model's. -/
def Obligations.MachineStartLeavesStartValues : Prop :=
  ∀ s : State, s.created = false → 2 ≤ s.cfg.ramSize / 16384 →
    ∃ t, exec .machineStart s = .next t ∧
      t.cardPresent = false ∧ t.controllerSelect = true ∧ t.keyboardDataLine = true ∧ t.keyboardClockPrev = true ∧
      t.bank3Page = s.cfg.bank3Draw % (s.cfg.ramSize / 16384) ∧ t.bank3Page < s.cfg.ramSize / 16384 ∧
      t.nmi = false ∧ t.irq = false ∧ t.firq = false ∧ t.ram = s.cfg.ramInit ∧ t.kbdBlocked = false ∧
      t.started = false ∧ t.hostIn = [] ∧ t.diag = [] ∧ t.serialOut = [] ∧ t.hist = [] ∧ t.cfg = s.cfg ∧
      t.created = true

/-- 70_reset_and_hazards.md R330: MACHINE_START is the first event of every run and occurs exactly once. A second one has
no step; before it no other event has one; and every completed step leaves the machine created, its event a
MACHINE_START exactly when the machine was not created yet. `created` is the model's own record of it (log 14). -/
def Obligations.MachineStartIsFirstAndOnce : Prop :=
  (∀ s : State, s.created = true → exec .machineStart s = .refused .startedTwice) ∧
  (∀ (s : State) (u : Transaction) (rest : List Transaction) (i : Instr), s.created = false →
    nextEvent s = some (u, rest) → decode u = .ok i → i ≠ .machineStart → step s = .refused .beforeMachineStart) ∧
  (∀ s t : State, step s = .next t →
    t.created = true ∧
      ∃ u rest i, nextEvent s = some (u, rest) ∧ decode u = .ok i ∧ (i = .machineStart ↔ s.created = false))

/-- 60_exceptions.md R301, R300: machine start raises CFG-RAM exactly below two pages; the fixed map has no overlap, so
it raises nothing else. -/
def Obligations.MachineStartNeedsTwoPages : Prop :=
  (∀ s : State, s.created = false → s.cfg.ramSize / 16384 < 2 →
    exec .machineStart s = .fault (.configRam s.cfg.ramSize)) ∧
  (∀ s : State, s.created = false → 2 ≤ s.cfg.ramSize / 16384 → ∃ t, exec .machineStart s = .next t) ∧
  mapOverlap busMap = none

/-- 70_reset_and_hazards.md R331: the reset state is what machine start leaves of it when it is not created yet. Its page 0, its RAM with nothing
listed and its empty `answers` and `env` are the model's choices (log 10, 11, 14). -/
def Obligations.ResetIsTheStateAfterMachineStart : Prop :=
  exec .machineStart { State.reset with created := false } = .next State.reset ∧ State.reset.created = true ∧
  State.reset.cardPresent = false ∧ State.reset.controllerSelect = true ∧ State.reset.keyboardDataLine = true ∧
  State.reset.keyboardClockPrev = true ∧ State.reset.nmi = false ∧ State.reset.irq = false ∧
  State.reset.firq = false ∧ State.reset.kbdBlocked = false ∧ State.reset.started = false ∧
  State.reset.hostIn = [] ∧ State.reset.diag = [] ∧ State.reset.serialOut = [] ∧ State.reset.hist = []

/-- The reset state is legal (10_state.md R51). -/
def Obligations.ResetIsLegal : Prop := State.reset.Legal

/-- 10_state.md R51: every step from a legal state leaves a legal state, whatever the event, the environment's replies
and the parameters. -/
def Obligations.StepKeepsLegal : Prop :=
  ∀ s t : State, s.Legal → step s = .next t → t.Legal

/-- 60_exceptions.md R303, R300: in a legal state the one error is a cartridge attach that is too large, before the run
has begun. -/
def Obligations.LegalStatesHaveNoRunTimeError : Prop :=
  ∀ (s : State) (i : Instr) (f : Fault), s.Legal → exec i s = .fault f →
    s.started = false ∧
      ∃ image, i = .cartAttach image ∧ f = .capacity image.length ∧ s.cfg.ramSize < 0x0100 + image.length

/-- 40_bus_dispatch.md R113: every read and every write of every address completes; the one exception is the debug
receive that waits for a host byte (46_host_io.md R258). -/
def Obligations.EveryBusAccessCompletes : Prop :=
  ∀ (s : State) (a : Addr) (v : Byte), s.Legal →
    (∃ t, memWrite a v s = .next t) ∧
    ((s.cfg.uartDebugStdio = true ∧ a = 0xC400 ∧ s.hostIn = []) ∨ ∃ t, memRead a s = .next t)

/-! ### Bus reads and writes of the block's own regions -/

/-- 40_bus_dispatch.md R115, R116: a read of bank1 or bank2 returns the store's byte at the address, whatever the page. -/
def Obligations.FixedBankReadsReturnStoreByte : Prop :=
  ∀ (s : State) (k : BitVec 14), 2 ≤ s.cfg.ramSize / 16384 →
    exec (.rdBank1 k) s =
      .next { s with started := true, answers := s.answers ++ [.cpu (Memory.read s.ram k.toNat)] } ∧
    exec (.rdBank2 k) s =
      .next { s with started := true, answers := s.answers ++ [.cpu (Memory.read s.ram (0x4000 + k.toNat))] }

/-- 40_bus_dispatch.md R117: a read of bank3 returns the byte of the selected page. -/
def Obligations.Bank3ReadReturnsPageByte : Prop :=
  ∀ (s : State) (k : BitVec 14), s.bank3Page < s.cfg.ramSize / 16384 →
    exec (.rdBank3 k) s =
      .next { s with
        started := true
        answers := s.answers ++ [.cpu (Memory.read s.ram (s.bank3Page * 16384 + k.toNat))] }

/-- 40_bus_dispatch.md R131, R132: a write of bank1 or bank2 stores one byte at the address and changes no other. -/
def Obligations.FixedBankWritesStoreOneByte : Prop :=
  ∀ (s : State) (k : BitVec 14) (v : Byte), 2 ≤ s.cfg.ramSize / 16384 → Memory.wf s.ram = true →
    (∃ m, exec (.wrBank1 k v) s = .next { s with started := true, ram := m } ∧
      ∀ a, Memory.read m a = if a = k.toNat then v else Memory.read s.ram a) ∧
    (∃ m, exec (.wrBank2 k v) s = .next { s with started := true, ram := m } ∧
      ∀ a, Memory.read m a = if a = 0x4000 + k.toNat then v else Memory.read s.ram a)

/-- 40_bus_dispatch.md R133: a write of bank3 stores one byte of the selected page and changes no other. -/
def Obligations.Bank3WriteStoresOneByte : Prop :=
  ∀ (s : State) (k : BitVec 14) (v : Byte), s.bank3Page < s.cfg.ramSize / 16384 → Memory.wf s.ram = true →
    ∃ m, exec (.wrBank3 k v) s = .next { s with started := true, ram := m } ∧
      ∀ a, Memory.read m a = if a = s.bank3Page * 16384 + k.toNat then v else Memory.read s.ram a

/-- 40_bus_dispatch.md R122, R126, R128: an unclaimed read returns the open-bus value and has no other effect. -/
def Obligations.UnclaimedReadsReturnOpenBus : Prop :=
  ∀ (s : State) (port : BitVec 1) (a : Addr), ∀ i ∈ [Instr.rdPsgData, .rdDiag port, .rdUnmapped a],
    exec i s = .next { s with started := true, answers := s.answers ++ [.cpu s.cfg.openBus] }

/-- 40_bus_dispatch.md R127: a ROM read returns the image's byte and has no other effect; a byte the host did not
supply is free (log 9). -/
def Obligations.RomReadReturnsImageByte : Prop :=
  ∀ (s : State) (off : BitVec 13),
    ∃ b, exec (.rdRom off) s = .next { s with started := true, answers := s.answers ++ [.cpu b] } ∧
      ∀ v, s.cfg.rom[off.toNat]? = some v → b = v

/-- 40_bus_dispatch.md R123, R124: the read itself sets the flip-flop, whatever it was, and returns 0. -/
def Obligations.SelectReadsSetTheFlipFlop : Prop :=
  ∀ s : State,
    exec .rdSelClr s =
      .next { s with started := true, controllerSelect := false, answers := s.answers ++ [.cpu 0x00] } ∧
    exec .rdSelSet s =
      .next { s with started := true, controllerSelect := true, answers := s.answers ++ [.cpu 0x00] }

/-- 40_bus_dispatch.md R139, R140, R142, R143: these writes change nothing but `started`. -/
def Obligations.NoEffectWritesOnlyStart : Prop :=
  ∀ (s : State) (v : Byte) (off : BitVec 13) (a : Addr),
    ∀ i ∈ [Instr.wrSelClr v, .wrSelSet v, .wrRom off v, .wrUnmapped a v], exec i s = .next { s with started := true }

/-- 40_bus_dispatch.md R141, 46_host_io.md R262: one record of two lowercase hexadecimal digits, high digit first, and
LF (0x0A), at either address; digits below ten are characters 0x30 up, from ten 0x61 up. -/
def Obligations.DiagWriteEmitsOneRecord : Prop :=
  ∀ (s : State) (port : BitVec 1) (v : Byte),
    ∃ hi lo lf : Char, exec (.wrDiag port v) s = .next { s with started := true, diag := s.diag ++ [hi, lo, lf] } ∧
      hi.toNat = (if v.toNat / 16 < 10 then 0x30 + v.toNat / 16 else 0x61 + (v.toNat / 16 - 10)) ∧
      lo.toNat = (if v.toNat % 16 < 10 then 0x30 + v.toNat % 16 else 0x61 + (v.toNat % 16 - 10)) ∧
      lf.toNat = 0x0A

/-! ### Forwarded accesses -/

/-- 40_bus_dispatch.md R118, R114: a PIA read returns the PIA's answer; the callbacks the PIA made are processed within
it: the page of the last port-A report, the last FIRQ level with one record a report, one answer a port-B query. The
record of the access follows those of its callbacks (log 5); the reply is the environment's (log 3). -/
def Obligations.PiaReadForwardsAndProcessesCallbacks : Prop :=
  ∀ (s : State) (off : BitVec 10), ∃ (bs : List Byte) (n : Nat),
    bs.length = portBQueries s.env.piaReply.callbacks ∧ (∀ b ∈ bs, isPortBByte s b) ∧
    exec (.rdPia off) s =
      .next { s with
        started := true
        bank3Page := pageAfter s.cfg s.bank3Page (portAReports s.env.piaReply.callbacks)
        firq := levelAfter s.firq (firqReports s.env.piaReply.callbacks)
        hist := s.hist ++ lineRecords .firq (firqReports s.env.piaReply.callbacks) ++
          [.devRead (.pia off) s.env.piaReply.answer]
        answers := s.answers ++ bs.map .pia ++ [.cpu s.env.piaReply.answer]
        env := { s.env with piaReplies := s.env.piaReplies.tail, draws := n } }

/-- 40_bus_dispatch.md R134, R114: a PIA write forwards the value; the callbacks as for a read (log 3, log 5). -/
def Obligations.PiaWriteForwardsAndProcessesCallbacks : Prop :=
  ∀ (s : State) (off : BitVec 10) (v : Byte), ∃ (bs : List Byte) (n : Nat),
    bs.length = portBQueries s.env.piaReply.callbacks ∧ (∀ b ∈ bs, isPortBByte s b) ∧
    exec (.wrPia off v) s =
      .next { s with
        started := true
        bank3Page := pageAfter s.cfg s.bank3Page (portAReports s.env.piaReply.callbacks)
        firq := levelAfter s.firq (firqReports s.env.piaReply.callbacks)
        hist := s.hist ++ lineRecords .firq (firqReports s.env.piaReply.callbacks) ++ [.devWrite (.pia off) v]
        answers := s.answers ++ bs.map .pia
        env := { s.env with piaReplies := s.env.piaReplies.tail, draws := n } }

/-- 40_bus_dispatch.md R120, R136, R114: VDP accesses are forwarded; the IRQ levels the VDP reports are processed within
the access (log 3, log 5). -/
def Obligations.VdpAccessesForwardAndProcessLevels : Prop :=
  ∀ (s : State) (port : BitVec 1) (v : Byte), ∃ n m : Nat,
    exec (.rdVdp port) s =
      .next { s with
        started := true
        irq := levelAfter s.irq s.env.vdpReply.callbacks
        hist := s.hist ++ lineRecords .irq s.env.vdpReply.callbacks ++ [.devRead (.vdp port) s.env.vdpReply.answer]
        answers := s.answers ++ [.cpu s.env.vdpReply.answer]
        env := { s.env with vdpReplies := s.env.vdpReplies.tail, draws := n } } ∧
    exec (.wrVdp port v) s =
      .next { s with
        started := true
        irq := levelAfter s.irq s.env.vdpReply.callbacks
        hist := s.hist ++ lineRecords .irq s.env.vdpReply.callbacks ++ [.devWrite (.vdp port) v]
        env := { s.env with vdpReplies := s.env.vdpReplies.tail, draws := m } }

/-- 40_bus_dispatch.md R119, R135, 46_host_io.md R260: outside the debug intercept a UART read is forwarded unmodified,
and a UART write always; the bytes the UART transmits meanwhile are emitted within the access (log 3). -/
def Obligations.UartAccessesForwardUnmodified : Prop :=
  ∀ (s : State) (off : BitVec 10) (v : Byte), ∃ n m : Nat,
    (s.cfg.uartDebugStdio = false ∨ (off ≠ 0 ∧ off ≠ 5) →
      exec (.rdUart off) s =
        .next { s with
          started := true
          serialOut := s.serialOut ++ s.env.uartReply.callbacks
          hist := s.hist ++ [.devRead (.uart off) s.env.uartReply.answer]
          answers := s.answers ++ [.cpu s.env.uartReply.answer]
          env := { s.env with uartReplies := s.env.uartReplies.tail, draws := n } }) ∧
    exec (.wrUart off v) s =
      .next { s with
        started := true
        serialOut := s.serialOut ++ s.env.uartReply.callbacks
        hist := s.hist ++ [.devWrite (.uart off) v]
        env := { s.env with uartReplies := s.env.uartReplies.tail, draws := m } }

/-- 46_host_io.md R258: a debug receive returns the head of the host's bytes, or waits; the UART is not accessed. -/
def Obligations.DebugReceiveReturnsHostByte : Prop :=
  ∀ s : State, s.cfg.uartDebugStdio = true →
    (∀ b bs, s.hostIn = b :: bs →
      exec (.rdUart 0) s = .next { s with started := true, hostIn := bs, answers := s.answers ++ [.cpu b] }) ∧
    (s.hostIn = [] → exec (.rdUart 0) s = .refused .debugReceiveWaits)

/-- 46_host_io.md R259: in debug mode a read of offset 5 is forwarded, its answer recorded, and returned with the
data-ready bit set and the other bits the UART's. -/
def Obligations.DebugLineStatusForcesDataReady : Prop :=
  ∀ s : State, s.cfg.uartDebugStdio = true → ∃ (v : Byte) (n : Nat),
    (∀ j, v.getLsbD j = if j = s.cfg.uartDrBit.val then true else s.env.uartReply.answer.getLsbD j) ∧
    exec (.rdUart 5) s =
      .next { s with
        started := true
        serialOut := s.serialOut ++ s.env.uartReply.callbacks
        hist := s.hist ++ [.devRead (.uart 5) s.env.uartReply.answer]
        answers := s.answers ++ [.cpu v]
        env := { s.env with uartReplies := s.env.uartReplies.tail, draws := n } }

/-- 40_bus_dispatch.md R121, R137, R138: the PSG's status read, address latch and data write are forwarded. -/
def Obligations.PsgAccessesForward : Prop :=
  ∀ (s : State) (v : Byte),
    (∃ n : Nat, exec .rdPsgStatus s =
      .next { s with
        started := true
        hist := s.hist ++ [.devRead .psgStatus s.env.psgReply]
        answers := s.answers ++ [.cpu s.env.psgReply]
        env := { s.env with psgReplies := s.env.psgReplies.tail, draws := n } }) ∧
    exec (.wrPsgAddr v) s = .next { s with started := true, hist := s.hist ++ [.devWrite .psgAddrLatch v] } ∧
    exec (.wrPsgData v) s = .next { s with started := true, hist := s.hist ++ [.devWrite .psgData v] }

/-! ### Banked memory -/

/-- 41_banked_memory.md R163: the page is the value modulo NUM_BANKS; nothing else changes. -/
def Obligations.PortAOutputSelectsPage : Prop :=
  ∀ (s : State) (v : Byte),
    exec (.piaPortaOut v) s = .next { s with bank3Page := v.toNat % (s.cfg.ramSize / 16384) }

/-- 41_banked_memory.md R168, R165: right after a port-A report every address of bank3 reads and writes exactly the
selected page's byte. -/
def Obligations.Bank3ShowsTheSelectedPage : Prop :=
  ∀ (s t : State) (v : Byte) (k : BitVec 14) (w : Byte), s.Legal → exec (.piaPortaOut v) s = .next t →
    (∃ u, memRead (0b10#2 ++ k) t = .next u ∧
      u.answers = s.answers ++ [.cpu (Memory.read s.ram (v.toNat % s.cfg.numBanks * 16384 + k.toNat))]) ∧
    (∃ u, memWrite (0b10#2 ++ k) w t = .next u ∧
      ∀ a, Memory.read u.ram a =
        if a = v.toNat % s.cfg.numBanks * 16384 + k.toNat then w else Memory.read s.ram a)

/-- 20_memory.md R74: with page 0 bank3 and bank1 name the same bytes, with page 1 bank3 and bank2; a write through one
is read through the other; selecting a page changes no read of bank1 or bank2. -/
def Obligations.BankWindowsAlias : Prop :=
  ∀ (s : State) (k : BitVec 14) (v : Byte), s.Legal →
    (s.bank3Page = 0 →
      (∃ t u, exec (.wrBank3 k v) s = .next t ∧ exec (.rdBank1 k) t = .next u ∧ u.answers = s.answers ++ [.cpu v]) ∧
      (∃ t u, exec (.wrBank1 k v) s = .next t ∧ exec (.rdBank3 k) t = .next u ∧ u.answers = s.answers ++ [.cpu v])) ∧
    (s.bank3Page = 1 →
      (∃ t u, exec (.wrBank3 k v) s = .next t ∧ exec (.rdBank2 k) t = .next u ∧ u.answers = s.answers ++ [.cpu v]) ∧
      (∃ t u, exec (.wrBank2 k v) s = .next t ∧ exec (.rdBank3 k) t = .next u ∧ u.answers = s.answers ++ [.cpu v])) ∧
    (∃ t, exec (.piaPortaOut v) s = .next t ∧
      (∃ u u', exec (.rdBank1 k) s = .next u ∧ exec (.rdBank1 k) t = .next u' ∧ u'.answers = u.answers) ∧
      (∃ u u', exec (.rdBank2 k) s = .next u ∧ exec (.rdBank2 k) t = .next u' ∧ u'.answers = u.answers))

/-! ### Controller multiplexer -/

/-- 42_controller_mux.md R181, R182, R185: the joystick read returns the rearranged snapshot and changes nothing. -/
def Obligations.JoystickReadRearrangesSnapshot : Prop :=
  ∀ (s : State) (p : BitVec 1) (raw : Byte),
    (s.controllerSelect = true →
      exec (.joyRead p raw) s = .next { s with answers := s.answers ++ [.joy p ((raw &&& 0x3F) ||| 0xC0)] }) ∧
    (s.controllerSelect = false →
      exec (.joyRead p raw) s =
        .next { s with answers := s.answers ++ [.joy p (((raw &&& 0x0F) ||| ((raw &&& 0xC0) >>> 2)) ||| 0xC0)] })

/-- 42_controller_mux.md R183: every result bit, under each select value. -/
def Obligations.MultiplexerBitsAreTheTable : Prop :=
  ∀ (r : Byte) (sel : Bool),
    (readPort r sel).getLsbD 7 = true ∧ (readPort r sel).getLsbD 6 = true ∧
    (readPort r sel).getLsbD 5 = (if sel then r.getLsbD 5 else r.getLsbD 7) ∧
    (readPort r sel).getLsbD 4 = (if sel then r.getLsbD 4 else r.getLsbD 6) ∧
    (readPort r sel).getLsbD 3 = r.getLsbD 3 ∧ (readPort r sel).getLsbD 2 = r.getLsbD 2 ∧
    (readPort r sel).getLsbD 1 = r.getLsbD 1 ∧ (readPort r sel).getLsbD 0 = r.getLsbD 0

/-! ### Interrupt lines -/

/-- 43_interrupt_lines.md R196, R197, R198, R200: a level report sets its line, is recorded, changed or not, and changes
nothing else. -/
def Obligations.LevelReportsSetTheirLine : Prop :=
  ∀ (s : State) (l : Bool),
    exec (.svcNmiLevel l) s = .next { s with nmi := l, hist := s.hist ++ [.cpuLine .nmi l] } ∧
    exec (.vdpIrqLevel l) s = .next { s with irq := l, hist := s.hist ++ [.cpuLine .irq l] } ∧
    exec (.piaFirqLevel l) s = .next { s with firq := l, hist := s.hist ++ [.cpuLine .firq l] }

/-- 43_interrupt_lines.md R202: a line is written by its own source only: its level event, or its source's report inside
an access to that source (for FIRQ also inside a keyboard clock event). Machine start clears all three. -/
def Obligations.LinesChangeByTheirSourceOnly : Prop :=
  ∀ (i : Instr) (s t : State), exec i s = .next t → i ≠ .machineStart →
    ((∀ l, i ≠ .svcNmiLevel l) → t.nmi = s.nmi) ∧
    ((∀ l, i ≠ .vdpIrqLevel l) →
      ((∃ port, i = .rdVdp port) ∨ (∃ port v, i = .wrVdp port v) → s.env.vdpReply.callbacks = []) →
      t.irq = s.irq) ∧
    ((∀ l, i ≠ .piaFirqLevel l) →
      ((∃ off, i = .rdPia off) ∨ (∃ off v, i = .wrPia off v) → firqReports s.env.piaReply.callbacks = []) →
      ((∃ l, i = .kbdClock l) → s.env.lineReply = []) →
      t.firq = s.firq)

/-! ### Keyboard and port B -/

/-- 44_keyboard.md R216 to R219: an admitted clock level is stored and forwarded; a falling edge against the level
stored before yields, and blocks with the guard on. The PIA's FIRQ reports are processed within the event, before its
own records (log 4, log 5). -/
def Obligations.ClockEventStoresForwardsAndYields : Prop :=
  ∀ (s : State) (l : Bool), s.cfg.kbdPresent = true → s.kbdBlocked = false →
    exec (.kbdClock l) s =
      .next { s with
        keyboardClockPrev := l
        firq := levelAfter s.firq s.env.lineReply
        kbdBlocked := s.keyboardClockPrev && !l && s.cfg.kbdSliceGuard
        hist := s.hist ++ lineRecords .firq s.env.lineReply ++ [.piaLine s.cfg.kbdClockLine l] ++
          (if s.keyboardClockPrev = true ∧ l = false then [.yieldKbd] else [])
        env := { s.env with lineReplies := s.env.lineReplies.tail } }

/-- 44_keyboard.md R215: a keyboard event is admitted only with the decoder fitted and the keyboard not blocked; one
that is not admitted has no step. -/
def Obligations.KeyboardEventsNeedAdmission : Prop :=
  ∀ (s : State) (l : Bool), ∀ i ∈ [Instr.kbdClock l, .kbdData l],
    ((∃ t, exec i s = .next t) ↔ s.cfg.kbdPresent = true ∧ s.kbdBlocked = false) ∧
    (s.cfg.kbdPresent = false ∨ s.kbdBlocked = true → ∃ r, exec i s = .refused r)

/-- 44_keyboard.md R221: an admitted data level is stored, and nothing else happens. -/
def Obligations.DataEventStoresLevel : Prop :=
  ∀ (s : State) (l : Bool), s.cfg.kbdPresent = true → s.kbdBlocked = false →
    exec (.kbdData l) s = .next { s with keyboardDataLine := l }

/-- 44_keyboard.md R220: an instruction boundary starts the run and ends the slice. -/
def Obligations.BoundaryEndsTheSlice : Prop :=
  ∀ s : State, exec .cpuBoundary s = .next { s with started := true, kbdBlocked := false }

/-- 44_keyboard.md R224, R225: a port-B query returns a byte with bit 4 clear when a card is present and the keyboard
bit clear when the data line is high, and without a decoder always clear, whatever the other bits (free, log 7); it
changes nothing but the draw counter. -/
def Obligations.PortBQueryReturnsBothBits : Prop :=
  ∀ s : State, ∃ (b : Byte) (n : Nat),
    b.getLsbD 4 = (!s.cardPresent) ∧ b.getLsbD s.cfg.kbdDataBit.index = (!s.keyboardDataLine) ∧
    (s.Legal → s.cfg.kbdPresent = false → b.getLsbD s.cfg.kbdDataBit.index = false) ∧
    exec .piaPortbIn s =
      .next { s with answers := s.answers ++ [.pia b], env := { s.env with draws := n } }

/-- 70_reset_and_hazards.md R342: with guard and keyboard, at most one falling edge between two boundaries, whatever
else happens; and after an edge neither line changes again before the next boundary. -/
def Obligations.AtMostOneEdgeBetweenBoundaries : Prop :=
  (∀ (is : List Instr) (s t : State), s.cfg.kbdSliceGuard = true → s.cfg.kbdPresent = true →
    (∀ i ∈ is, i ≠ .cpuBoundary ∧ i ≠ .machineStart) → execAll is s = some t → yields t ≤ yields s + 1) ∧
  (∀ (is : List Instr) (s t u : State), s.cfg.kbdSliceGuard = true → s.cfg.kbdPresent = true →
    s.keyboardClockPrev = true → exec (.kbdClock false) s = .next t →
    (∀ i ∈ is, i ≠ .cpuBoundary ∧ i ≠ .machineStart) → execAll is t = some u →
    yields t = yields s + 1 ∧ yields u = yields t ∧
    u.keyboardClockPrev = t.keyboardClockPrev ∧ u.keyboardDataLine = t.keyboardDataLine)

/-- 44_keyboard.md R228, R218, R222: without the guard a sequence of clock levels yields exactly once for each
high-to-low transition from the stored level; the spec's three sequences. -/
def Obligations.ClockSequenceYieldsPerTransition : Prop :=
  (∀ (ls : List Bool) (s : State), s.cfg.kbdPresent = true → s.cfg.kbdSliceGuard = false → s.kbdBlocked = false →
    ∃ t, execAll (ls.map .kbdClock) s = some t ∧ yields t = yields s + fallingEdges s.keyboardClockPrev ls) ∧
  fallingEdges true [false] = 1 ∧ fallingEdges false [false] = 0 ∧
  fallingEdges true [true, false, false, true] = 1 ∧ fallingEdges true [false, false] = 1

/-! ### Cartridge and serial -/

/-- 45_cartridge.md R241, R243: an admitted attach copies the image verbatim from offset 0x0100, changes no other byte,
and sets the presence flag. -/
def Obligations.AttachCopiesImageAndSetsFlag : Prop :=
  ∀ (s : State) (image : List Byte), s.started = false → s.cardPresent = false →
    0x0100 + image.length ≤ s.cfg.ramSize → Memory.wf s.ram = true →
    ∃ m, exec (.cartAttach image) s = .next { s with ram := m, cardPresent := true } ∧
      (∀ i (h : i < image.length), Memory.read m (0x0100 + i) = image[i]) ∧
      (∀ a, a < 0x0100 ∨ 0x0100 + image.length ≤ a → Memory.read m a = Memory.read s.ram a)

/-- 45_cartridge.md R242, R244, R240: too large an image is a capacity error; after the run has begun, or with a card
already present, there is no step. -/
def Obligations.AttachIsRejectedLateTwiceOrTooLarge : Prop :=
  ∀ (s : State) (image : List Byte),
    (s.started = false → s.cardPresent = false → s.cfg.ramSize < 0x0100 + image.length →
      exec (.cartAttach image) s = .fault (.capacity image.length)) ∧
    (s.started = true ∨ s.cardPresent = true → ∃ r, exec (.cartAttach image) s = .refused r)

/-- 46_host_io.md R255, R257: a transmitted byte is emitted, a host byte is queued, in order, in either mode. -/
def Obligations.SerialEventsAppendTheirByte : Prop :=
  ∀ (s : State) (b : Byte),
    exec (.uartTx b) s = .next { s with serialOut := s.serialOut ++ [b] } ∧
    exec (.hostSerialIn b) s = .next { s with hostIn := s.hostIn ++ [b] }

/-! ### Rules over all operations -/

/-- 10_state.md R39, 40_bus_dispatch.md R111: the run begins at the first CPU event and at no other, for good. -/
def Obligations.RunBeginsAtCpuEventsOnly : Prop :=
  ∀ (i : Instr) (s t : State), exec i s = .next t → i ≠ .machineStart → t.started = (s.started || isCpuEvent i)

/-- 10_state.md R31, R51: the card flag becomes true by an attach only, and nothing but a machine start clears it. -/
def Obligations.CardFlagOnlyByAttach : Prop :=
  ∀ (i : Instr) (s t : State), exec i s = .next t → i ≠ .machineStart →
    (t.cardPresent = true ↔ s.cardPresent = true ∨ ∃ image, i = .cartAttach image)

/-- 10_state.md R32: the flip-flop changes by its two reads only (and by machine start). -/
def Obligations.FlipFlopOnlyBySelectReads : Prop :=
  ∀ (i : Instr) (s t : State), exec i s = .next t → i ≠ .machineStart →
    (i = .rdSelClr → t.controllerSelect = false) ∧ (i = .rdSelSet → t.controllerSelect = true) ∧
    (i ≠ .rdSelClr → i ≠ .rdSelSet → t.controllerSelect = s.controllerSelect)

/-- 41_banked_memory.md R167: the page changes by a port-A report only, its own event or inside an access to the PIA
(and by machine start). -/
def Obligations.PageOnlyByPortAReports : Prop :=
  ∀ (i : Instr) (s t : State), exec i s = .next t → i ≠ .machineStart → (∀ v, i ≠ .piaPortaOut v) →
    ((∃ off, i = .rdPia off) ∨ (∃ off v, i = .wrPia off v) → portAReports s.env.piaReply.callbacks = []) →
    t.bank3Page = s.bank3Page

/-- 10_state.md R33, R34: each keyboard line's stored level changes by its own event only (and by machine start). -/
def Obligations.KeyboardLinesOnlyByTheirEvents : Prop :=
  ∀ (i : Instr) (s t : State), exec i s = .next t → i ≠ .machineStart →
    ((∀ l, i ≠ .kbdData l) → t.keyboardDataLine = s.keyboardDataLine) ∧
    ((∀ l, i ≠ .kbdClock l) → t.keyboardClockPrev = s.keyboardClockPrev)

/-- 10_state.md R41, R42: the output streams and the history only ever grow, until a machine start. -/
def Obligations.StreamsOnlyGrow : Prop :=
  ∀ (i : Instr) (s t : State), exec i s = .next t → i ≠ .machineStart →
    s.diag <+: t.diag ∧ s.serialOut <+: t.serialOut ∧ s.hist <+: t.hist ∧ s.answers <+: t.answers

/-- 10_state.md R50, 00_scope.md section 3: no operation changes a parameter, ROM_IMAGE among them. -/
def Obligations.ParametersNeverChange : Prop :=
  ∀ (i : Instr) (s t : State), exec i s = .next t → t.cfg = s.cfg

/-- 20_memory.md R75, 10_state.md R37: a byte of the store changes only by a window write of its offset; the bytes beyond
the last whole page by no bus access at all. The initialisation operations are left to their own statements. -/
def Obligations.StoreByteOnlyByItsWindowWrite : Prop :=
  ∀ (i : Instr) (s t : State) (a : Nat), s.Legal → exec i s = .next t → isInitialisation i = false →
    (storedOffset i s ≠ some a → Memory.read t.ram a = Memory.read s.ram a) ∧
    (s.cfg.numBanks * 16384 ≤ a → Memory.read t.ram a = Memory.read s.ram a)

/-- 20_memory.md R75: a window read returns the byte the latest window write of the same store offset stored, through
any alias, whatever operations stand between them that leave that offset alone. -/
def Obligations.WindowReadReturnsLatestWrite : Prop :=
  ∀ (w r : Bank) (k j : BitVec 14) (v : Byte) (is : List Instr) (s s₁ s₂ : State), s.Legal →
    exec (windowWrite w k v) s = .next s₁ → leavesAlone (storeOffset w k s) is s₁ → execAll is s₁ = some s₂ →
    storeOffset r j s₂ = storeOffset w k s →
    ∃ u, exec (windowRead r j) s₂ = .next u ∧ u.answers = s₂.answers ++ [.cpu v]
end

