-- ==== Sys2Proof/Laws/Memory.lean ====
section
/-! SUPPORT. What the memory operations do to one byte, and that they keep the canonical form and the store's size. -/

namespace Sys2Proof.Machine

theorem Memory.risingFrom_mono {lo lo' : Nat} {m : Memory} (h : Memory.risingFrom lo m = true) (hl : lo' ≤ lo) :
    Memory.risingFrom lo' m = true := by
  cases m with
  | nil => rfl
  | cons c m => simp [Memory.risingFrom] at h ⊢; exact ⟨⟨by omega, h.1.2⟩, h.2⟩

/-- Below its first offset a canonical memory lists nothing. -/
theorem Memory.read_below {lo a : Nat} {m : Memory} (h : Memory.risingFrom lo m = true) (ha : a < lo) :
    Memory.read m a = Memory.blank := by
  induction m generalizing lo with
  | nil => rfl
  | cons c m ih =>
    simp [Memory.risingFrom] at h
    simp only [Memory.read]
    rw [if_neg (by omega)]
    exact ih h.2 (by omega)

theorem Memory.read_put {m : Memory} {a b : Nat} {v : Byte} (h : Memory.risingFrom (a + 1) m = true) :
    Memory.read (Memory.put a v m) b = if b = a then v else Memory.read m b := by
  unfold Memory.put
  by_cases hv : v = Memory.blank
  · rw [if_pos hv]
    split
    · next hb => rw [hb, Memory.read_below h (by omega), hv]
    · rfl
  · rw [if_neg hv]
    simp only [Memory.read]
    by_cases hb : b = a
    · simp [hb]
    · rw [if_neg (by omega), if_neg hb]

theorem Memory.put_rising {m : Memory} {lo a : Nat} {v : Byte} (hl : lo ≤ a)
    (h : Memory.risingFrom (a + 1) m = true) : Memory.risingFrom lo (Memory.put a v m) = true := by
  unfold Memory.put
  by_cases hv : v = Memory.blank
  · rw [if_pos hv]; exact Memory.risingFrom_mono h (by omega)
  · rw [if_neg hv]; simp [Memory.risingFrom, hl, hv, h]

/-- A write keeps the canonical form. -/
theorem Memory.write_rising {m : Memory} {lo a : Nat} {v : Byte} (hl : lo ≤ a)
    (h : Memory.risingFrom lo m = true) : Memory.risingFrom lo (Memory.write m a v) = true := by
  induction m generalizing lo with
  | nil => exact Memory.put_rising hl rfl
  | cons c m ih =>
    have hc := h
    simp [Memory.risingFrom] at h
    simp only [Memory.write]
    split
    · next hlt =>
      exact Memory.put_rising hl (by simp [Memory.risingFrom, h.1.2, h.2]; omega)
    · split
      · next heq => subst heq; exact Memory.put_rising hl h.2
      · simp [Memory.risingFrom, h.1.1, h.1.2]
        exact ih (by omega) h.2

theorem Memory.write_wf {m : Memory} {a : Nat} {v : Byte} (h : Memory.wf m = true) :
    Memory.wf (Memory.write m a v) = true := Memory.write_rising (Nat.zero_le a) h

/-- A read after a write: the byte written at its offset, every other byte as before. -/
theorem Memory.read_write_rising {m : Memory} {lo a b : Nat} {v : Byte} (h : Memory.risingFrom lo m = true) :
    Memory.read (Memory.write m a v) b = if b = a then v else Memory.read m b := by
  induction m generalizing lo with
  | nil => exact Memory.read_put rfl
  | cons c m ih =>
    simp [Memory.risingFrom] at h
    simp only [Memory.write]
    split
    · next hlt => exact Memory.read_put (by simp [Memory.risingFrom, h.1.2, h.2]; omega)
    · split
      · next heq =>
        rw [heq, Memory.read_put h.2]
        simp only [Memory.read]
        by_cases hb : b = c.1
        · simp [hb]
        · rw [if_neg hb, if_neg hb, if_neg (by omega)]
      · next hlt hne =>
        simp only [Memory.read]
        by_cases hb : c.1 = b
        · rw [if_pos hb, if_pos hb, if_neg (by omega)]
        · rw [if_neg hb, if_neg hb]; exact ih h.2

theorem Memory.read_write {m : Memory} {a b : Nat} {v : Byte} (h : Memory.wf m = true) :
    Memory.read (Memory.write m a v) b = if b = a then v else Memory.read m b := Memory.read_write_rising h

theorem Memory.load_wf {m : Memory} {a : Nat} {bs : List Byte} (h : Memory.wf m = true) :
    Memory.wf (Memory.load m a bs) = true := by
  induction bs generalizing m a with
  | nil => exact h
  | cons b bs ih => exact ih (Memory.write_wf h)

/-- After a load, the bytes loaded stand from the offset upwards, every other byte is as before. -/
theorem Memory.read_load {m : Memory} {a b : Nat} {bs : List Byte} (h : Memory.wf m = true) :
    Memory.read (Memory.load m a bs) b =
      if a ≤ b then bs.getD (b - a) (Memory.read m b) else Memory.read m b := by
  induction bs generalizing m a with
  | nil => simp [Memory.load]
  | cons v bs ih =>
    simp only [Memory.load]
    rw [ih (Memory.write_wf h), Memory.read_write h]
    by_cases hab : a = b
    · subst hab; simp
    · by_cases hle : a ≤ b
      · rw [if_pos (by omega), if_pos hle, if_neg (by omega)]
        obtain ⟨n, hn⟩ : ∃ n, b - a = n + 1 := ⟨b - a - 1, by omega⟩
        rw [hn, show b - (a + 1) = n by omega]; simp
      · rw [if_neg (by omega), if_neg hle, if_neg (by omega)]

theorem Memory.put_within {m : Memory} {size a : Nat} {v : Byte} (ha : a < size)
    (h : Memory.within size m = true) : Memory.within size (Memory.put a v m) = true := by
  unfold Memory.put
  split
  · exact h
  · simp only [Memory.within, List.all_cons] at h ⊢; simp [ha, h]

/-- A write inside the store keeps every entry inside it. -/
theorem Memory.write_within {m : Memory} {size a : Nat} {v : Byte} (ha : a < size)
    (h : Memory.within size m = true) : Memory.within size (Memory.write m a v) = true := by
  induction m with
  | nil => exact Memory.put_within ha h
  | cons c m ih =>
    have ht : Memory.within size m = true := by
      simp only [Memory.within, List.all_cons, Bool.and_eq_true] at h ⊢; exact h.2
    simp only [Memory.write]
    split
    · exact Memory.put_within ha h
    · split
      · exact Memory.put_within ha ht
      · simp only [Memory.within, List.all_cons, Bool.and_eq_true] at h ⊢
        exact ⟨h.1, ih ht⟩

theorem Memory.load_within {m : Memory} {size a : Nat} {bs : List Byte} (ha : a + bs.length ≤ size)
    (h : Memory.within size m = true) : Memory.within size (Memory.load m a bs) = true := by
  induction bs generalizing m a with
  | nil => exact h
  | cons b bs ih =>
    simp only [List.length_cons] at ha
    exact ih (by omega) (Memory.write_within (by omega) h)

/-- Canonical memories that read the same everywhere are the same data. -/
theorem Memory.ext_rising {m n : Memory} {lo : Nat} (hm : Memory.risingFrom lo m = true)
    (hn : Memory.risingFrom lo n = true) (h : ∀ a, Memory.read m a = Memory.read n a) : m = n := by
  induction m generalizing n lo with
  | nil =>
    cases n with
    | nil => rfl
    | cons d n =>
      simp [Memory.risingFrom] at hn
      have := h d.1
      simp [Memory.read] at this
      exact absurd this.symm hn.1.2
  | cons c m ih =>
    cases n with
    | nil =>
      simp [Memory.risingFrom] at hm
      have := h c.1
      simp [Memory.read] at this
      exact absurd this hm.1.2
    | cons d n =>
      have hm' := hm
      have hn' := hn
      simp [Memory.risingFrom] at hm hn
      have key : c.1 = d.1 := by
        rcases Nat.lt_trichotomy c.1 d.1 with hlt | heq | hgt
        · have h1 := h c.1
          have h2 : Memory.read (d :: n) c.1 = Memory.blank :=
            Memory.read_below (lo := d.1) (by simp [Memory.risingFrom, hn.1.2, hn.2]) hlt
          rw [h2] at h1
          simp [Memory.read] at h1
          exact absurd h1 hm.1.2
        · exact heq
        · have h1 := h d.1
          have h2 : Memory.read (c :: m) d.1 = Memory.blank :=
            Memory.read_below (lo := c.1) (by simp [Memory.risingFrom, hm.1.2, hm.2]) hgt
          rw [h2] at h1
          simp [Memory.read] at h1
          exact absurd h1.symm hn.1.2
      have hv : c.2 = d.2 := by
        have := h c.1
        simpa [Memory.read, key] using this
      have hr : ∀ a, Memory.read m a = Memory.read n a := by
        intro a
        by_cases ha : c.1 = a
        · subst ha
          rw [Memory.read_below hm.2 (by omega), Memory.read_below hn.2 (by omega)]
        · have := h a
          simp only [Memory.read, if_neg ha, if_neg (key ▸ ha)] at this
          exact this
      rw [Prod.ext key hv, ih hm.2 (key ▸ hn.2) hr]

theorem Memory.ext_wf {m n : Memory} (hm : Memory.wf m = true) (hn : Memory.wf n = true)
    (h : ∀ a, Memory.read m a = Memory.read n a) : m = n := Memory.ext_rising hm hn h

end Sys2Proof.Machine
end

