-- ==== Sys2Proof/Laws/State.lean ====
section
/-! SUPPORT. One lemma per field per named update of State and of Env, each true by rfl, so that no proof unfolds a
record update. -/

namespace Sys2Proof.Machine

@[simp] theorem State.markStarted_cfg (s : State) : s.markStarted.cfg = s.cfg := rfl
@[simp] theorem State.markStarted_cardPresent (s : State) : s.markStarted.cardPresent = s.cardPresent := rfl
@[simp] theorem State.markStarted_controllerSelect (s : State) : s.markStarted.controllerSelect = s.controllerSelect := rfl
@[simp] theorem State.markStarted_keyboardDataLine (s : State) : s.markStarted.keyboardDataLine = s.keyboardDataLine := rfl
@[simp] theorem State.markStarted_keyboardClockPrev (s : State) : s.markStarted.keyboardClockPrev = s.keyboardClockPrev := rfl
@[simp] theorem State.markStarted_bank3Page (s : State) : s.markStarted.bank3Page = s.bank3Page := rfl
@[simp] theorem State.markStarted_nmi (s : State) : s.markStarted.nmi = s.nmi := rfl
@[simp] theorem State.markStarted_irq (s : State) : s.markStarted.irq = s.irq := rfl
@[simp] theorem State.markStarted_firq (s : State) : s.markStarted.firq = s.firq := rfl
@[simp] theorem State.markStarted_ram (s : State) : s.markStarted.ram = s.ram := rfl
@[simp] theorem State.markStarted_kbdBlocked (s : State) : s.markStarted.kbdBlocked = s.kbdBlocked := rfl
@[simp] theorem State.markStarted_started (s : State) : s.markStarted.started = true := rfl
@[simp] theorem State.markStarted_hostIn (s : State) : s.markStarted.hostIn = s.hostIn := rfl
@[simp] theorem State.markStarted_diag (s : State) : s.markStarted.diag = s.diag := rfl
@[simp] theorem State.markStarted_serialOut (s : State) : s.markStarted.serialOut = s.serialOut := rfl
@[simp] theorem State.markStarted_hist (s : State) : s.markStarted.hist = s.hist := rfl
@[simp] theorem State.markStarted_answers (s : State) : s.markStarted.answers = s.answers := rfl
@[simp] theorem State.markStarted_created (s : State) : s.markStarted.created = s.created := rfl
@[simp] theorem State.markStarted_env (s : State) : s.markStarted.env = s.env := rfl

@[simp] theorem State.setCardPresent_cfg (s : State) (b : Bool) : (s.setCardPresent b).cfg = s.cfg := rfl
@[simp] theorem State.setCardPresent_cardPresent (s : State) (b : Bool) : (s.setCardPresent b).cardPresent = b := rfl
@[simp] theorem State.setCardPresent_controllerSelect (s : State) (b : Bool) : (s.setCardPresent b).controllerSelect = s.controllerSelect := rfl
@[simp] theorem State.setCardPresent_keyboardDataLine (s : State) (b : Bool) : (s.setCardPresent b).keyboardDataLine = s.keyboardDataLine := rfl
@[simp] theorem State.setCardPresent_keyboardClockPrev (s : State) (b : Bool) : (s.setCardPresent b).keyboardClockPrev = s.keyboardClockPrev := rfl
@[simp] theorem State.setCardPresent_bank3Page (s : State) (b : Bool) : (s.setCardPresent b).bank3Page = s.bank3Page := rfl
@[simp] theorem State.setCardPresent_nmi (s : State) (b : Bool) : (s.setCardPresent b).nmi = s.nmi := rfl
@[simp] theorem State.setCardPresent_irq (s : State) (b : Bool) : (s.setCardPresent b).irq = s.irq := rfl
@[simp] theorem State.setCardPresent_firq (s : State) (b : Bool) : (s.setCardPresent b).firq = s.firq := rfl
@[simp] theorem State.setCardPresent_ram (s : State) (b : Bool) : (s.setCardPresent b).ram = s.ram := rfl
@[simp] theorem State.setCardPresent_kbdBlocked (s : State) (b : Bool) : (s.setCardPresent b).kbdBlocked = s.kbdBlocked := rfl
@[simp] theorem State.setCardPresent_started (s : State) (b : Bool) : (s.setCardPresent b).started = s.started := rfl
@[simp] theorem State.setCardPresent_hostIn (s : State) (b : Bool) : (s.setCardPresent b).hostIn = s.hostIn := rfl
@[simp] theorem State.setCardPresent_diag (s : State) (b : Bool) : (s.setCardPresent b).diag = s.diag := rfl
@[simp] theorem State.setCardPresent_serialOut (s : State) (b : Bool) : (s.setCardPresent b).serialOut = s.serialOut := rfl
@[simp] theorem State.setCardPresent_hist (s : State) (b : Bool) : (s.setCardPresent b).hist = s.hist := rfl
@[simp] theorem State.setCardPresent_answers (s : State) (b : Bool) : (s.setCardPresent b).answers = s.answers := rfl
@[simp] theorem State.setCardPresent_created (s : State) (b : Bool) : (s.setCardPresent b).created = s.created := rfl
@[simp] theorem State.setCardPresent_env (s : State) (b : Bool) : (s.setCardPresent b).env = s.env := rfl

@[simp] theorem State.setSelect_cfg (s : State) (b : Bool) : (s.setSelect b).cfg = s.cfg := rfl
@[simp] theorem State.setSelect_cardPresent (s : State) (b : Bool) : (s.setSelect b).cardPresent = s.cardPresent := rfl
@[simp] theorem State.setSelect_controllerSelect (s : State) (b : Bool) : (s.setSelect b).controllerSelect = b := rfl
@[simp] theorem State.setSelect_keyboardDataLine (s : State) (b : Bool) : (s.setSelect b).keyboardDataLine = s.keyboardDataLine := rfl
@[simp] theorem State.setSelect_keyboardClockPrev (s : State) (b : Bool) : (s.setSelect b).keyboardClockPrev = s.keyboardClockPrev := rfl
@[simp] theorem State.setSelect_bank3Page (s : State) (b : Bool) : (s.setSelect b).bank3Page = s.bank3Page := rfl
@[simp] theorem State.setSelect_nmi (s : State) (b : Bool) : (s.setSelect b).nmi = s.nmi := rfl
@[simp] theorem State.setSelect_irq (s : State) (b : Bool) : (s.setSelect b).irq = s.irq := rfl
@[simp] theorem State.setSelect_firq (s : State) (b : Bool) : (s.setSelect b).firq = s.firq := rfl
@[simp] theorem State.setSelect_ram (s : State) (b : Bool) : (s.setSelect b).ram = s.ram := rfl
@[simp] theorem State.setSelect_kbdBlocked (s : State) (b : Bool) : (s.setSelect b).kbdBlocked = s.kbdBlocked := rfl
@[simp] theorem State.setSelect_started (s : State) (b : Bool) : (s.setSelect b).started = s.started := rfl
@[simp] theorem State.setSelect_hostIn (s : State) (b : Bool) : (s.setSelect b).hostIn = s.hostIn := rfl
@[simp] theorem State.setSelect_diag (s : State) (b : Bool) : (s.setSelect b).diag = s.diag := rfl
@[simp] theorem State.setSelect_serialOut (s : State) (b : Bool) : (s.setSelect b).serialOut = s.serialOut := rfl
@[simp] theorem State.setSelect_hist (s : State) (b : Bool) : (s.setSelect b).hist = s.hist := rfl
@[simp] theorem State.setSelect_answers (s : State) (b : Bool) : (s.setSelect b).answers = s.answers := rfl
@[simp] theorem State.setSelect_created (s : State) (b : Bool) : (s.setSelect b).created = s.created := rfl
@[simp] theorem State.setSelect_env (s : State) (b : Bool) : (s.setSelect b).env = s.env := rfl

@[simp] theorem State.setDataLine_cfg (s : State) (b : Bool) : (s.setDataLine b).cfg = s.cfg := rfl
@[simp] theorem State.setDataLine_cardPresent (s : State) (b : Bool) : (s.setDataLine b).cardPresent = s.cardPresent := rfl
@[simp] theorem State.setDataLine_controllerSelect (s : State) (b : Bool) : (s.setDataLine b).controllerSelect = s.controllerSelect := rfl
@[simp] theorem State.setDataLine_keyboardDataLine (s : State) (b : Bool) : (s.setDataLine b).keyboardDataLine = b := rfl
@[simp] theorem State.setDataLine_keyboardClockPrev (s : State) (b : Bool) : (s.setDataLine b).keyboardClockPrev = s.keyboardClockPrev := rfl
@[simp] theorem State.setDataLine_bank3Page (s : State) (b : Bool) : (s.setDataLine b).bank3Page = s.bank3Page := rfl
@[simp] theorem State.setDataLine_nmi (s : State) (b : Bool) : (s.setDataLine b).nmi = s.nmi := rfl
@[simp] theorem State.setDataLine_irq (s : State) (b : Bool) : (s.setDataLine b).irq = s.irq := rfl
@[simp] theorem State.setDataLine_firq (s : State) (b : Bool) : (s.setDataLine b).firq = s.firq := rfl
@[simp] theorem State.setDataLine_ram (s : State) (b : Bool) : (s.setDataLine b).ram = s.ram := rfl
@[simp] theorem State.setDataLine_kbdBlocked (s : State) (b : Bool) : (s.setDataLine b).kbdBlocked = s.kbdBlocked := rfl
@[simp] theorem State.setDataLine_started (s : State) (b : Bool) : (s.setDataLine b).started = s.started := rfl
@[simp] theorem State.setDataLine_hostIn (s : State) (b : Bool) : (s.setDataLine b).hostIn = s.hostIn := rfl
@[simp] theorem State.setDataLine_diag (s : State) (b : Bool) : (s.setDataLine b).diag = s.diag := rfl
@[simp] theorem State.setDataLine_serialOut (s : State) (b : Bool) : (s.setDataLine b).serialOut = s.serialOut := rfl
@[simp] theorem State.setDataLine_hist (s : State) (b : Bool) : (s.setDataLine b).hist = s.hist := rfl
@[simp] theorem State.setDataLine_answers (s : State) (b : Bool) : (s.setDataLine b).answers = s.answers := rfl
@[simp] theorem State.setDataLine_created (s : State) (b : Bool) : (s.setDataLine b).created = s.created := rfl
@[simp] theorem State.setDataLine_env (s : State) (b : Bool) : (s.setDataLine b).env = s.env := rfl

@[simp] theorem State.setClockPrev_cfg (s : State) (b : Bool) : (s.setClockPrev b).cfg = s.cfg := rfl
@[simp] theorem State.setClockPrev_cardPresent (s : State) (b : Bool) : (s.setClockPrev b).cardPresent = s.cardPresent := rfl
@[simp] theorem State.setClockPrev_controllerSelect (s : State) (b : Bool) : (s.setClockPrev b).controllerSelect = s.controllerSelect := rfl
@[simp] theorem State.setClockPrev_keyboardDataLine (s : State) (b : Bool) : (s.setClockPrev b).keyboardDataLine = s.keyboardDataLine := rfl
@[simp] theorem State.setClockPrev_keyboardClockPrev (s : State) (b : Bool) : (s.setClockPrev b).keyboardClockPrev = b := rfl
@[simp] theorem State.setClockPrev_bank3Page (s : State) (b : Bool) : (s.setClockPrev b).bank3Page = s.bank3Page := rfl
@[simp] theorem State.setClockPrev_nmi (s : State) (b : Bool) : (s.setClockPrev b).nmi = s.nmi := rfl
@[simp] theorem State.setClockPrev_irq (s : State) (b : Bool) : (s.setClockPrev b).irq = s.irq := rfl
@[simp] theorem State.setClockPrev_firq (s : State) (b : Bool) : (s.setClockPrev b).firq = s.firq := rfl
@[simp] theorem State.setClockPrev_ram (s : State) (b : Bool) : (s.setClockPrev b).ram = s.ram := rfl
@[simp] theorem State.setClockPrev_kbdBlocked (s : State) (b : Bool) : (s.setClockPrev b).kbdBlocked = s.kbdBlocked := rfl
@[simp] theorem State.setClockPrev_started (s : State) (b : Bool) : (s.setClockPrev b).started = s.started := rfl
@[simp] theorem State.setClockPrev_hostIn (s : State) (b : Bool) : (s.setClockPrev b).hostIn = s.hostIn := rfl
@[simp] theorem State.setClockPrev_diag (s : State) (b : Bool) : (s.setClockPrev b).diag = s.diag := rfl
@[simp] theorem State.setClockPrev_serialOut (s : State) (b : Bool) : (s.setClockPrev b).serialOut = s.serialOut := rfl
@[simp] theorem State.setClockPrev_hist (s : State) (b : Bool) : (s.setClockPrev b).hist = s.hist := rfl
@[simp] theorem State.setClockPrev_answers (s : State) (b : Bool) : (s.setClockPrev b).answers = s.answers := rfl
@[simp] theorem State.setClockPrev_created (s : State) (b : Bool) : (s.setClockPrev b).created = s.created := rfl
@[simp] theorem State.setClockPrev_env (s : State) (b : Bool) : (s.setClockPrev b).env = s.env := rfl

@[simp] theorem State.setPage_cfg (s : State) (p : Nat) : (s.setPage p).cfg = s.cfg := rfl
@[simp] theorem State.setPage_cardPresent (s : State) (p : Nat) : (s.setPage p).cardPresent = s.cardPresent := rfl
@[simp] theorem State.setPage_controllerSelect (s : State) (p : Nat) : (s.setPage p).controllerSelect = s.controllerSelect := rfl
@[simp] theorem State.setPage_keyboardDataLine (s : State) (p : Nat) : (s.setPage p).keyboardDataLine = s.keyboardDataLine := rfl
@[simp] theorem State.setPage_keyboardClockPrev (s : State) (p : Nat) : (s.setPage p).keyboardClockPrev = s.keyboardClockPrev := rfl
@[simp] theorem State.setPage_bank3Page (s : State) (p : Nat) : (s.setPage p).bank3Page = p := rfl
@[simp] theorem State.setPage_nmi (s : State) (p : Nat) : (s.setPage p).nmi = s.nmi := rfl
@[simp] theorem State.setPage_irq (s : State) (p : Nat) : (s.setPage p).irq = s.irq := rfl
@[simp] theorem State.setPage_firq (s : State) (p : Nat) : (s.setPage p).firq = s.firq := rfl
@[simp] theorem State.setPage_ram (s : State) (p : Nat) : (s.setPage p).ram = s.ram := rfl
@[simp] theorem State.setPage_kbdBlocked (s : State) (p : Nat) : (s.setPage p).kbdBlocked = s.kbdBlocked := rfl
@[simp] theorem State.setPage_started (s : State) (p : Nat) : (s.setPage p).started = s.started := rfl
@[simp] theorem State.setPage_hostIn (s : State) (p : Nat) : (s.setPage p).hostIn = s.hostIn := rfl
@[simp] theorem State.setPage_diag (s : State) (p : Nat) : (s.setPage p).diag = s.diag := rfl
@[simp] theorem State.setPage_serialOut (s : State) (p : Nat) : (s.setPage p).serialOut = s.serialOut := rfl
@[simp] theorem State.setPage_hist (s : State) (p : Nat) : (s.setPage p).hist = s.hist := rfl
@[simp] theorem State.setPage_answers (s : State) (p : Nat) : (s.setPage p).answers = s.answers := rfl
@[simp] theorem State.setPage_created (s : State) (p : Nat) : (s.setPage p).created = s.created := rfl
@[simp] theorem State.setPage_env (s : State) (p : Nat) : (s.setPage p).env = s.env := rfl

@[simp] theorem State.setRam_cfg (s : State) (m : Memory) : (s.setRam m).cfg = s.cfg := rfl
@[simp] theorem State.setRam_cardPresent (s : State) (m : Memory) : (s.setRam m).cardPresent = s.cardPresent := rfl
@[simp] theorem State.setRam_controllerSelect (s : State) (m : Memory) : (s.setRam m).controllerSelect = s.controllerSelect := rfl
@[simp] theorem State.setRam_keyboardDataLine (s : State) (m : Memory) : (s.setRam m).keyboardDataLine = s.keyboardDataLine := rfl
@[simp] theorem State.setRam_keyboardClockPrev (s : State) (m : Memory) : (s.setRam m).keyboardClockPrev = s.keyboardClockPrev := rfl
@[simp] theorem State.setRam_bank3Page (s : State) (m : Memory) : (s.setRam m).bank3Page = s.bank3Page := rfl
@[simp] theorem State.setRam_nmi (s : State) (m : Memory) : (s.setRam m).nmi = s.nmi := rfl
@[simp] theorem State.setRam_irq (s : State) (m : Memory) : (s.setRam m).irq = s.irq := rfl
@[simp] theorem State.setRam_firq (s : State) (m : Memory) : (s.setRam m).firq = s.firq := rfl
@[simp] theorem State.setRam_ram (s : State) (m : Memory) : (s.setRam m).ram = m := rfl
@[simp] theorem State.setRam_kbdBlocked (s : State) (m : Memory) : (s.setRam m).kbdBlocked = s.kbdBlocked := rfl
@[simp] theorem State.setRam_started (s : State) (m : Memory) : (s.setRam m).started = s.started := rfl
@[simp] theorem State.setRam_hostIn (s : State) (m : Memory) : (s.setRam m).hostIn = s.hostIn := rfl
@[simp] theorem State.setRam_diag (s : State) (m : Memory) : (s.setRam m).diag = s.diag := rfl
@[simp] theorem State.setRam_serialOut (s : State) (m : Memory) : (s.setRam m).serialOut = s.serialOut := rfl
@[simp] theorem State.setRam_hist (s : State) (m : Memory) : (s.setRam m).hist = s.hist := rfl
@[simp] theorem State.setRam_answers (s : State) (m : Memory) : (s.setRam m).answers = s.answers := rfl
@[simp] theorem State.setRam_created (s : State) (m : Memory) : (s.setRam m).created = s.created := rfl
@[simp] theorem State.setRam_env (s : State) (m : Memory) : (s.setRam m).env = s.env := rfl

@[simp] theorem State.setBlocked_cfg (s : State) (b : Bool) : (s.setBlocked b).cfg = s.cfg := rfl
@[simp] theorem State.setBlocked_cardPresent (s : State) (b : Bool) : (s.setBlocked b).cardPresent = s.cardPresent := rfl
@[simp] theorem State.setBlocked_controllerSelect (s : State) (b : Bool) : (s.setBlocked b).controllerSelect = s.controllerSelect := rfl
@[simp] theorem State.setBlocked_keyboardDataLine (s : State) (b : Bool) : (s.setBlocked b).keyboardDataLine = s.keyboardDataLine := rfl
@[simp] theorem State.setBlocked_keyboardClockPrev (s : State) (b : Bool) : (s.setBlocked b).keyboardClockPrev = s.keyboardClockPrev := rfl
@[simp] theorem State.setBlocked_bank3Page (s : State) (b : Bool) : (s.setBlocked b).bank3Page = s.bank3Page := rfl
@[simp] theorem State.setBlocked_nmi (s : State) (b : Bool) : (s.setBlocked b).nmi = s.nmi := rfl
@[simp] theorem State.setBlocked_irq (s : State) (b : Bool) : (s.setBlocked b).irq = s.irq := rfl
@[simp] theorem State.setBlocked_firq (s : State) (b : Bool) : (s.setBlocked b).firq = s.firq := rfl
@[simp] theorem State.setBlocked_ram (s : State) (b : Bool) : (s.setBlocked b).ram = s.ram := rfl
@[simp] theorem State.setBlocked_kbdBlocked (s : State) (b : Bool) : (s.setBlocked b).kbdBlocked = b := rfl
@[simp] theorem State.setBlocked_started (s : State) (b : Bool) : (s.setBlocked b).started = s.started := rfl
@[simp] theorem State.setBlocked_hostIn (s : State) (b : Bool) : (s.setBlocked b).hostIn = s.hostIn := rfl
@[simp] theorem State.setBlocked_diag (s : State) (b : Bool) : (s.setBlocked b).diag = s.diag := rfl
@[simp] theorem State.setBlocked_serialOut (s : State) (b : Bool) : (s.setBlocked b).serialOut = s.serialOut := rfl
@[simp] theorem State.setBlocked_hist (s : State) (b : Bool) : (s.setBlocked b).hist = s.hist := rfl
@[simp] theorem State.setBlocked_answers (s : State) (b : Bool) : (s.setBlocked b).answers = s.answers := rfl
@[simp] theorem State.setBlocked_created (s : State) (b : Bool) : (s.setBlocked b).created = s.created := rfl
@[simp] theorem State.setBlocked_env (s : State) (b : Bool) : (s.setBlocked b).env = s.env := rfl

@[simp] theorem State.setCreated_cfg (s : State) (b : Bool) : (s.setCreated b).cfg = s.cfg := rfl
@[simp] theorem State.setCreated_cardPresent (s : State) (b : Bool) : (s.setCreated b).cardPresent = s.cardPresent := rfl
@[simp] theorem State.setCreated_controllerSelect (s : State) (b : Bool) : (s.setCreated b).controllerSelect = s.controllerSelect := rfl
@[simp] theorem State.setCreated_keyboardDataLine (s : State) (b : Bool) : (s.setCreated b).keyboardDataLine = s.keyboardDataLine := rfl
@[simp] theorem State.setCreated_keyboardClockPrev (s : State) (b : Bool) : (s.setCreated b).keyboardClockPrev = s.keyboardClockPrev := rfl
@[simp] theorem State.setCreated_bank3Page (s : State) (b : Bool) : (s.setCreated b).bank3Page = s.bank3Page := rfl
@[simp] theorem State.setCreated_nmi (s : State) (b : Bool) : (s.setCreated b).nmi = s.nmi := rfl
@[simp] theorem State.setCreated_irq (s : State) (b : Bool) : (s.setCreated b).irq = s.irq := rfl
@[simp] theorem State.setCreated_firq (s : State) (b : Bool) : (s.setCreated b).firq = s.firq := rfl
@[simp] theorem State.setCreated_ram (s : State) (b : Bool) : (s.setCreated b).ram = s.ram := rfl
@[simp] theorem State.setCreated_kbdBlocked (s : State) (b : Bool) : (s.setCreated b).kbdBlocked = s.kbdBlocked := rfl
@[simp] theorem State.setCreated_started (s : State) (b : Bool) : (s.setCreated b).started = s.started := rfl
@[simp] theorem State.setCreated_hostIn (s : State) (b : Bool) : (s.setCreated b).hostIn = s.hostIn := rfl
@[simp] theorem State.setCreated_diag (s : State) (b : Bool) : (s.setCreated b).diag = s.diag := rfl
@[simp] theorem State.setCreated_serialOut (s : State) (b : Bool) : (s.setCreated b).serialOut = s.serialOut := rfl
@[simp] theorem State.setCreated_hist (s : State) (b : Bool) : (s.setCreated b).hist = s.hist := rfl
@[simp] theorem State.setCreated_answers (s : State) (b : Bool) : (s.setCreated b).answers = s.answers := rfl
@[simp] theorem State.setCreated_created (s : State) (b : Bool) : (s.setCreated b).created = b := rfl
@[simp] theorem State.setCreated_env (s : State) (b : Bool) : (s.setCreated b).env = s.env := rfl

@[simp] theorem State.setHostIn_cfg (s : State) (q : List Byte) : (s.setHostIn q).cfg = s.cfg := rfl
@[simp] theorem State.setHostIn_cardPresent (s : State) (q : List Byte) : (s.setHostIn q).cardPresent = s.cardPresent := rfl
@[simp] theorem State.setHostIn_controllerSelect (s : State) (q : List Byte) : (s.setHostIn q).controllerSelect = s.controllerSelect := rfl
@[simp] theorem State.setHostIn_keyboardDataLine (s : State) (q : List Byte) : (s.setHostIn q).keyboardDataLine = s.keyboardDataLine := rfl
@[simp] theorem State.setHostIn_keyboardClockPrev (s : State) (q : List Byte) : (s.setHostIn q).keyboardClockPrev = s.keyboardClockPrev := rfl
@[simp] theorem State.setHostIn_bank3Page (s : State) (q : List Byte) : (s.setHostIn q).bank3Page = s.bank3Page := rfl
@[simp] theorem State.setHostIn_nmi (s : State) (q : List Byte) : (s.setHostIn q).nmi = s.nmi := rfl
@[simp] theorem State.setHostIn_irq (s : State) (q : List Byte) : (s.setHostIn q).irq = s.irq := rfl
@[simp] theorem State.setHostIn_firq (s : State) (q : List Byte) : (s.setHostIn q).firq = s.firq := rfl
@[simp] theorem State.setHostIn_ram (s : State) (q : List Byte) : (s.setHostIn q).ram = s.ram := rfl
@[simp] theorem State.setHostIn_kbdBlocked (s : State) (q : List Byte) : (s.setHostIn q).kbdBlocked = s.kbdBlocked := rfl
@[simp] theorem State.setHostIn_started (s : State) (q : List Byte) : (s.setHostIn q).started = s.started := rfl
@[simp] theorem State.setHostIn_hostIn (s : State) (q : List Byte) : (s.setHostIn q).hostIn = q := rfl
@[simp] theorem State.setHostIn_diag (s : State) (q : List Byte) : (s.setHostIn q).diag = s.diag := rfl
@[simp] theorem State.setHostIn_serialOut (s : State) (q : List Byte) : (s.setHostIn q).serialOut = s.serialOut := rfl
@[simp] theorem State.setHostIn_hist (s : State) (q : List Byte) : (s.setHostIn q).hist = s.hist := rfl
@[simp] theorem State.setHostIn_answers (s : State) (q : List Byte) : (s.setHostIn q).answers = s.answers := rfl
@[simp] theorem State.setHostIn_created (s : State) (q : List Byte) : (s.setHostIn q).created = s.created := rfl
@[simp] theorem State.setHostIn_env (s : State) (q : List Byte) : (s.setHostIn q).env = s.env := rfl

@[simp] theorem State.emitDiag_cfg (s : State) (cs : List Char) : (s.emitDiag cs).cfg = s.cfg := rfl
@[simp] theorem State.emitDiag_cardPresent (s : State) (cs : List Char) : (s.emitDiag cs).cardPresent = s.cardPresent := rfl
@[simp] theorem State.emitDiag_controllerSelect (s : State) (cs : List Char) : (s.emitDiag cs).controllerSelect = s.controllerSelect := rfl
@[simp] theorem State.emitDiag_keyboardDataLine (s : State) (cs : List Char) : (s.emitDiag cs).keyboardDataLine = s.keyboardDataLine := rfl
@[simp] theorem State.emitDiag_keyboardClockPrev (s : State) (cs : List Char) : (s.emitDiag cs).keyboardClockPrev = s.keyboardClockPrev := rfl
@[simp] theorem State.emitDiag_bank3Page (s : State) (cs : List Char) : (s.emitDiag cs).bank3Page = s.bank3Page := rfl
@[simp] theorem State.emitDiag_nmi (s : State) (cs : List Char) : (s.emitDiag cs).nmi = s.nmi := rfl
@[simp] theorem State.emitDiag_irq (s : State) (cs : List Char) : (s.emitDiag cs).irq = s.irq := rfl
@[simp] theorem State.emitDiag_firq (s : State) (cs : List Char) : (s.emitDiag cs).firq = s.firq := rfl
@[simp] theorem State.emitDiag_ram (s : State) (cs : List Char) : (s.emitDiag cs).ram = s.ram := rfl
@[simp] theorem State.emitDiag_kbdBlocked (s : State) (cs : List Char) : (s.emitDiag cs).kbdBlocked = s.kbdBlocked := rfl
@[simp] theorem State.emitDiag_started (s : State) (cs : List Char) : (s.emitDiag cs).started = s.started := rfl
@[simp] theorem State.emitDiag_hostIn (s : State) (cs : List Char) : (s.emitDiag cs).hostIn = s.hostIn := rfl
@[simp] theorem State.emitDiag_diag (s : State) (cs : List Char) : (s.emitDiag cs).diag = s.diag ++ cs := rfl
@[simp] theorem State.emitDiag_serialOut (s : State) (cs : List Char) : (s.emitDiag cs).serialOut = s.serialOut := rfl
@[simp] theorem State.emitDiag_hist (s : State) (cs : List Char) : (s.emitDiag cs).hist = s.hist := rfl
@[simp] theorem State.emitDiag_answers (s : State) (cs : List Char) : (s.emitDiag cs).answers = s.answers := rfl
@[simp] theorem State.emitDiag_created (s : State) (cs : List Char) : (s.emitDiag cs).created = s.created := rfl
@[simp] theorem State.emitDiag_env (s : State) (cs : List Char) : (s.emitDiag cs).env = s.env := rfl

@[simp] theorem State.emitSerial_cfg (s : State) (b : Byte) : (s.emitSerial b).cfg = s.cfg := rfl
@[simp] theorem State.emitSerial_cardPresent (s : State) (b : Byte) : (s.emitSerial b).cardPresent = s.cardPresent := rfl
@[simp] theorem State.emitSerial_controllerSelect (s : State) (b : Byte) : (s.emitSerial b).controllerSelect = s.controllerSelect := rfl
@[simp] theorem State.emitSerial_keyboardDataLine (s : State) (b : Byte) : (s.emitSerial b).keyboardDataLine = s.keyboardDataLine := rfl
@[simp] theorem State.emitSerial_keyboardClockPrev (s : State) (b : Byte) : (s.emitSerial b).keyboardClockPrev = s.keyboardClockPrev := rfl
@[simp] theorem State.emitSerial_bank3Page (s : State) (b : Byte) : (s.emitSerial b).bank3Page = s.bank3Page := rfl
@[simp] theorem State.emitSerial_nmi (s : State) (b : Byte) : (s.emitSerial b).nmi = s.nmi := rfl
@[simp] theorem State.emitSerial_irq (s : State) (b : Byte) : (s.emitSerial b).irq = s.irq := rfl
@[simp] theorem State.emitSerial_firq (s : State) (b : Byte) : (s.emitSerial b).firq = s.firq := rfl
@[simp] theorem State.emitSerial_ram (s : State) (b : Byte) : (s.emitSerial b).ram = s.ram := rfl
@[simp] theorem State.emitSerial_kbdBlocked (s : State) (b : Byte) : (s.emitSerial b).kbdBlocked = s.kbdBlocked := rfl
@[simp] theorem State.emitSerial_started (s : State) (b : Byte) : (s.emitSerial b).started = s.started := rfl
@[simp] theorem State.emitSerial_hostIn (s : State) (b : Byte) : (s.emitSerial b).hostIn = s.hostIn := rfl
@[simp] theorem State.emitSerial_diag (s : State) (b : Byte) : (s.emitSerial b).diag = s.diag := rfl
@[simp] theorem State.emitSerial_serialOut (s : State) (b : Byte) : (s.emitSerial b).serialOut = s.serialOut ++ [b] := rfl
@[simp] theorem State.emitSerial_hist (s : State) (b : Byte) : (s.emitSerial b).hist = s.hist := rfl
@[simp] theorem State.emitSerial_answers (s : State) (b : Byte) : (s.emitSerial b).answers = s.answers := rfl
@[simp] theorem State.emitSerial_created (s : State) (b : Byte) : (s.emitSerial b).created = s.created := rfl
@[simp] theorem State.emitSerial_env (s : State) (b : Byte) : (s.emitSerial b).env = s.env := rfl

@[simp] theorem State.record_cfg (s : State) (r : HistRec) : (s.record r).cfg = s.cfg := rfl
@[simp] theorem State.record_cardPresent (s : State) (r : HistRec) : (s.record r).cardPresent = s.cardPresent := rfl
@[simp] theorem State.record_controllerSelect (s : State) (r : HistRec) : (s.record r).controllerSelect = s.controllerSelect := rfl
@[simp] theorem State.record_keyboardDataLine (s : State) (r : HistRec) : (s.record r).keyboardDataLine = s.keyboardDataLine := rfl
@[simp] theorem State.record_keyboardClockPrev (s : State) (r : HistRec) : (s.record r).keyboardClockPrev = s.keyboardClockPrev := rfl
@[simp] theorem State.record_bank3Page (s : State) (r : HistRec) : (s.record r).bank3Page = s.bank3Page := rfl
@[simp] theorem State.record_nmi (s : State) (r : HistRec) : (s.record r).nmi = s.nmi := rfl
@[simp] theorem State.record_irq (s : State) (r : HistRec) : (s.record r).irq = s.irq := rfl
@[simp] theorem State.record_firq (s : State) (r : HistRec) : (s.record r).firq = s.firq := rfl
@[simp] theorem State.record_ram (s : State) (r : HistRec) : (s.record r).ram = s.ram := rfl
@[simp] theorem State.record_kbdBlocked (s : State) (r : HistRec) : (s.record r).kbdBlocked = s.kbdBlocked := rfl
@[simp] theorem State.record_started (s : State) (r : HistRec) : (s.record r).started = s.started := rfl
@[simp] theorem State.record_hostIn (s : State) (r : HistRec) : (s.record r).hostIn = s.hostIn := rfl
@[simp] theorem State.record_diag (s : State) (r : HistRec) : (s.record r).diag = s.diag := rfl
@[simp] theorem State.record_serialOut (s : State) (r : HistRec) : (s.record r).serialOut = s.serialOut := rfl
@[simp] theorem State.record_hist (s : State) (r : HistRec) : (s.record r).hist = s.hist ++ [r] := rfl
@[simp] theorem State.record_answers (s : State) (r : HistRec) : (s.record r).answers = s.answers := rfl
@[simp] theorem State.record_created (s : State) (r : HistRec) : (s.record r).created = s.created := rfl
@[simp] theorem State.record_env (s : State) (r : HistRec) : (s.record r).env = s.env := rfl

@[simp] theorem State.answer_cfg (s : State) (r : Answer) : (s.answer r).cfg = s.cfg := rfl
@[simp] theorem State.answer_cardPresent (s : State) (r : Answer) : (s.answer r).cardPresent = s.cardPresent := rfl
@[simp] theorem State.answer_controllerSelect (s : State) (r : Answer) : (s.answer r).controllerSelect = s.controllerSelect := rfl
@[simp] theorem State.answer_keyboardDataLine (s : State) (r : Answer) : (s.answer r).keyboardDataLine = s.keyboardDataLine := rfl
@[simp] theorem State.answer_keyboardClockPrev (s : State) (r : Answer) : (s.answer r).keyboardClockPrev = s.keyboardClockPrev := rfl
@[simp] theorem State.answer_bank3Page (s : State) (r : Answer) : (s.answer r).bank3Page = s.bank3Page := rfl
@[simp] theorem State.answer_nmi (s : State) (r : Answer) : (s.answer r).nmi = s.nmi := rfl
@[simp] theorem State.answer_irq (s : State) (r : Answer) : (s.answer r).irq = s.irq := rfl
@[simp] theorem State.answer_firq (s : State) (r : Answer) : (s.answer r).firq = s.firq := rfl
@[simp] theorem State.answer_ram (s : State) (r : Answer) : (s.answer r).ram = s.ram := rfl
@[simp] theorem State.answer_kbdBlocked (s : State) (r : Answer) : (s.answer r).kbdBlocked = s.kbdBlocked := rfl
@[simp] theorem State.answer_started (s : State) (r : Answer) : (s.answer r).started = s.started := rfl
@[simp] theorem State.answer_hostIn (s : State) (r : Answer) : (s.answer r).hostIn = s.hostIn := rfl
@[simp] theorem State.answer_diag (s : State) (r : Answer) : (s.answer r).diag = s.diag := rfl
@[simp] theorem State.answer_serialOut (s : State) (r : Answer) : (s.answer r).serialOut = s.serialOut := rfl
@[simp] theorem State.answer_hist (s : State) (r : Answer) : (s.answer r).hist = s.hist := rfl
@[simp] theorem State.answer_answers (s : State) (r : Answer) : (s.answer r).answers = s.answers ++ [r] := rfl
@[simp] theorem State.answer_created (s : State) (r : Answer) : (s.answer r).created = s.created := rfl
@[simp] theorem State.answer_env (s : State) (r : Answer) : (s.answer r).env = s.env := rfl

@[simp] theorem State.setEnv_cfg (s : State) (e : Env) : (s.setEnv e).cfg = s.cfg := rfl
@[simp] theorem State.setEnv_cardPresent (s : State) (e : Env) : (s.setEnv e).cardPresent = s.cardPresent := rfl
@[simp] theorem State.setEnv_controllerSelect (s : State) (e : Env) : (s.setEnv e).controllerSelect = s.controllerSelect := rfl
@[simp] theorem State.setEnv_keyboardDataLine (s : State) (e : Env) : (s.setEnv e).keyboardDataLine = s.keyboardDataLine := rfl
@[simp] theorem State.setEnv_keyboardClockPrev (s : State) (e : Env) : (s.setEnv e).keyboardClockPrev = s.keyboardClockPrev := rfl
@[simp] theorem State.setEnv_bank3Page (s : State) (e : Env) : (s.setEnv e).bank3Page = s.bank3Page := rfl
@[simp] theorem State.setEnv_nmi (s : State) (e : Env) : (s.setEnv e).nmi = s.nmi := rfl
@[simp] theorem State.setEnv_irq (s : State) (e : Env) : (s.setEnv e).irq = s.irq := rfl
@[simp] theorem State.setEnv_firq (s : State) (e : Env) : (s.setEnv e).firq = s.firq := rfl
@[simp] theorem State.setEnv_ram (s : State) (e : Env) : (s.setEnv e).ram = s.ram := rfl
@[simp] theorem State.setEnv_kbdBlocked (s : State) (e : Env) : (s.setEnv e).kbdBlocked = s.kbdBlocked := rfl
@[simp] theorem State.setEnv_started (s : State) (e : Env) : (s.setEnv e).started = s.started := rfl
@[simp] theorem State.setEnv_hostIn (s : State) (e : Env) : (s.setEnv e).hostIn = s.hostIn := rfl
@[simp] theorem State.setEnv_diag (s : State) (e : Env) : (s.setEnv e).diag = s.diag := rfl
@[simp] theorem State.setEnv_serialOut (s : State) (e : Env) : (s.setEnv e).serialOut = s.serialOut := rfl
@[simp] theorem State.setEnv_hist (s : State) (e : Env) : (s.setEnv e).hist = s.hist := rfl
@[simp] theorem State.setEnv_answers (s : State) (e : Env) : (s.setEnv e).answers = s.answers := rfl
@[simp] theorem State.setEnv_created (s : State) (e : Env) : (s.setEnv e).created = s.created := rfl
@[simp] theorem State.setEnv_env (s : State) (e : Env) : (s.setEnv e).env = e := rfl

@[simp] theorem State.setLine_cfg (s : State) (line : CpuLine) (l : Bool) : (s.setLine line l).cfg = s.cfg := by
  cases line <;> rfl
@[simp] theorem State.setLine_cardPresent (s : State) (line : CpuLine) (l : Bool) : (s.setLine line l).cardPresent = s.cardPresent := by
  cases line <;> rfl
@[simp] theorem State.setLine_controllerSelect (s : State) (line : CpuLine) (l : Bool) : (s.setLine line l).controllerSelect = s.controllerSelect := by
  cases line <;> rfl
@[simp] theorem State.setLine_keyboardDataLine (s : State) (line : CpuLine) (l : Bool) : (s.setLine line l).keyboardDataLine = s.keyboardDataLine := by
  cases line <;> rfl
@[simp] theorem State.setLine_keyboardClockPrev (s : State) (line : CpuLine) (l : Bool) : (s.setLine line l).keyboardClockPrev = s.keyboardClockPrev := by
  cases line <;> rfl
@[simp] theorem State.setLine_bank3Page (s : State) (line : CpuLine) (l : Bool) : (s.setLine line l).bank3Page = s.bank3Page := by
  cases line <;> rfl
@[simp] theorem State.setLine_ram (s : State) (line : CpuLine) (l : Bool) : (s.setLine line l).ram = s.ram := by
  cases line <;> rfl
@[simp] theorem State.setLine_kbdBlocked (s : State) (line : CpuLine) (l : Bool) : (s.setLine line l).kbdBlocked = s.kbdBlocked := by
  cases line <;> rfl
@[simp] theorem State.setLine_started (s : State) (line : CpuLine) (l : Bool) : (s.setLine line l).started = s.started := by
  cases line <;> rfl
@[simp] theorem State.setLine_hostIn (s : State) (line : CpuLine) (l : Bool) : (s.setLine line l).hostIn = s.hostIn := by
  cases line <;> rfl
@[simp] theorem State.setLine_diag (s : State) (line : CpuLine) (l : Bool) : (s.setLine line l).diag = s.diag := by
  cases line <;> rfl
@[simp] theorem State.setLine_serialOut (s : State) (line : CpuLine) (l : Bool) : (s.setLine line l).serialOut = s.serialOut := by
  cases line <;> rfl
@[simp] theorem State.setLine_hist (s : State) (line : CpuLine) (l : Bool) : (s.setLine line l).hist = s.hist := by
  cases line <;> rfl
@[simp] theorem State.setLine_answers (s : State) (line : CpuLine) (l : Bool) : (s.setLine line l).answers = s.answers := by
  cases line <;> rfl
@[simp] theorem State.setLine_created (s : State) (line : CpuLine) (l : Bool) : (s.setLine line l).created = s.created := by
  cases line <;> rfl
@[simp] theorem State.setLine_env (s : State) (line : CpuLine) (l : Bool) : (s.setLine line l).env = s.env := by
  cases line <;> rfl
@[simp] theorem State.setLine_nmi_nmi (s : State) (l : Bool) : (s.setLine .nmi l).nmi = l := rfl
@[simp] theorem State.setLine_nmi_irq (s : State) (l : Bool) : (s.setLine .nmi l).irq = s.irq := rfl
@[simp] theorem State.setLine_nmi_firq (s : State) (l : Bool) : (s.setLine .nmi l).firq = s.firq := rfl
@[simp] theorem State.setLine_irq_nmi (s : State) (l : Bool) : (s.setLine .irq l).nmi = s.nmi := rfl
@[simp] theorem State.setLine_irq_irq (s : State) (l : Bool) : (s.setLine .irq l).irq = l := rfl
@[simp] theorem State.setLine_irq_firq (s : State) (l : Bool) : (s.setLine .irq l).firq = s.firq := rfl
@[simp] theorem State.setLine_firq_nmi (s : State) (l : Bool) : (s.setLine .firq l).nmi = s.nmi := rfl
@[simp] theorem State.setLine_firq_irq (s : State) (l : Bool) : (s.setLine .firq l).irq = s.irq := rfl
@[simp] theorem State.setLine_firq_firq (s : State) (l : Bool) : (s.setLine .firq l).firq = l := rfl

/-- The line written has the level, every other line keeps its own (43_interrupt_lines.md R195). -/
@[simp] theorem State.line_setLine (s : State) (line q : CpuLine) (l : Bool) :
    (s.setLine line l).line q = if q = line then l else s.line q := by
  cases line <;> cases q <;> rfl

@[simp] theorem Env.takePia_inbox (e : Env) : e.takePia.inbox = e.inbox := rfl
@[simp] theorem Env.takePia_piaReplies (e : Env) : e.takePia.piaReplies = e.piaReplies.tail := rfl
@[simp] theorem Env.takePia_lineReplies (e : Env) : e.takePia.lineReplies = e.lineReplies := rfl
@[simp] theorem Env.takePia_vdpReplies (e : Env) : e.takePia.vdpReplies = e.vdpReplies := rfl
@[simp] theorem Env.takePia_uartReplies (e : Env) : e.takePia.uartReplies = e.uartReplies := rfl
@[simp] theorem Env.takePia_psgReplies (e : Env) : e.takePia.psgReplies = e.psgReplies := rfl
@[simp] theorem Env.takePia_draws (e : Env) : e.takePia.draws = e.draws + 1 := rfl

@[simp] theorem Env.takeVdp_inbox (e : Env) : e.takeVdp.inbox = e.inbox := rfl
@[simp] theorem Env.takeVdp_piaReplies (e : Env) : e.takeVdp.piaReplies = e.piaReplies := rfl
@[simp] theorem Env.takeVdp_lineReplies (e : Env) : e.takeVdp.lineReplies = e.lineReplies := rfl
@[simp] theorem Env.takeVdp_vdpReplies (e : Env) : e.takeVdp.vdpReplies = e.vdpReplies.tail := rfl
@[simp] theorem Env.takeVdp_uartReplies (e : Env) : e.takeVdp.uartReplies = e.uartReplies := rfl
@[simp] theorem Env.takeVdp_psgReplies (e : Env) : e.takeVdp.psgReplies = e.psgReplies := rfl
@[simp] theorem Env.takeVdp_draws (e : Env) : e.takeVdp.draws = e.draws + 1 := rfl

@[simp] theorem Env.takeUart_inbox (e : Env) : e.takeUart.inbox = e.inbox := rfl
@[simp] theorem Env.takeUart_piaReplies (e : Env) : e.takeUart.piaReplies = e.piaReplies := rfl
@[simp] theorem Env.takeUart_lineReplies (e : Env) : e.takeUart.lineReplies = e.lineReplies := rfl
@[simp] theorem Env.takeUart_vdpReplies (e : Env) : e.takeUart.vdpReplies = e.vdpReplies := rfl
@[simp] theorem Env.takeUart_uartReplies (e : Env) : e.takeUart.uartReplies = e.uartReplies.tail := rfl
@[simp] theorem Env.takeUart_psgReplies (e : Env) : e.takeUart.psgReplies = e.psgReplies := rfl
@[simp] theorem Env.takeUart_draws (e : Env) : e.takeUart.draws = e.draws + 1 := rfl

@[simp] theorem Env.takePsg_inbox (e : Env) : e.takePsg.inbox = e.inbox := rfl
@[simp] theorem Env.takePsg_piaReplies (e : Env) : e.takePsg.piaReplies = e.piaReplies := rfl
@[simp] theorem Env.takePsg_lineReplies (e : Env) : e.takePsg.lineReplies = e.lineReplies := rfl
@[simp] theorem Env.takePsg_vdpReplies (e : Env) : e.takePsg.vdpReplies = e.vdpReplies := rfl
@[simp] theorem Env.takePsg_uartReplies (e : Env) : e.takePsg.uartReplies = e.uartReplies := rfl
@[simp] theorem Env.takePsg_psgReplies (e : Env) : e.takePsg.psgReplies = e.psgReplies.tail := rfl
@[simp] theorem Env.takePsg_draws (e : Env) : e.takePsg.draws = e.draws + 1 := rfl

@[simp] theorem Env.takeLine_inbox (e : Env) : e.takeLine.inbox = e.inbox := rfl
@[simp] theorem Env.takeLine_piaReplies (e : Env) : e.takeLine.piaReplies = e.piaReplies := rfl
@[simp] theorem Env.takeLine_lineReplies (e : Env) : e.takeLine.lineReplies = e.lineReplies.tail := rfl
@[simp] theorem Env.takeLine_vdpReplies (e : Env) : e.takeLine.vdpReplies = e.vdpReplies := rfl
@[simp] theorem Env.takeLine_uartReplies (e : Env) : e.takeLine.uartReplies = e.uartReplies := rfl
@[simp] theorem Env.takeLine_psgReplies (e : Env) : e.takeLine.psgReplies = e.psgReplies := rfl
@[simp] theorem Env.takeLine_draws (e : Env) : e.takeLine.draws = e.draws := rfl

@[simp] theorem Env.nextDraw_inbox (e : Env) : e.nextDraw.inbox = e.inbox := rfl
@[simp] theorem Env.nextDraw_piaReplies (e : Env) : e.nextDraw.piaReplies = e.piaReplies := rfl
@[simp] theorem Env.nextDraw_lineReplies (e : Env) : e.nextDraw.lineReplies = e.lineReplies := rfl
@[simp] theorem Env.nextDraw_vdpReplies (e : Env) : e.nextDraw.vdpReplies = e.vdpReplies := rfl
@[simp] theorem Env.nextDraw_uartReplies (e : Env) : e.nextDraw.uartReplies = e.uartReplies := rfl
@[simp] theorem Env.nextDraw_psgReplies (e : Env) : e.nextDraw.psgReplies = e.psgReplies := rfl
@[simp] theorem Env.nextDraw_draws (e : Env) : e.nextDraw.draws = e.draws + 1 := rfl

@[simp] theorem Env.setInbox_inbox (e : Env) (ts : List Transaction) : (e.setInbox ts).inbox = ts := rfl
@[simp] theorem Env.setInbox_piaReplies (e : Env) (ts : List Transaction) : (e.setInbox ts).piaReplies = e.piaReplies := rfl
@[simp] theorem Env.setInbox_lineReplies (e : Env) (ts : List Transaction) : (e.setInbox ts).lineReplies = e.lineReplies := rfl
@[simp] theorem Env.setInbox_vdpReplies (e : Env) (ts : List Transaction) : (e.setInbox ts).vdpReplies = e.vdpReplies := rfl
@[simp] theorem Env.setInbox_uartReplies (e : Env) (ts : List Transaction) : (e.setInbox ts).uartReplies = e.uartReplies := rfl
@[simp] theorem Env.setInbox_psgReplies (e : Env) (ts : List Transaction) : (e.setInbox ts).psgReplies = e.psgReplies := rfl
@[simp] theorem Env.setInbox_draws (e : Env) (ts : List Transaction) : (e.setInbox ts).draws = e.draws := rfl

/-- Two states with the same fields are the same state. -/
theorem State.ext_fields {s t : State}
    (h_cfg : s.cfg = t.cfg)
    (h_cardPresent : s.cardPresent = t.cardPresent)
    (h_controllerSelect : s.controllerSelect = t.controllerSelect)
    (h_keyboardDataLine : s.keyboardDataLine = t.keyboardDataLine)
    (h_keyboardClockPrev : s.keyboardClockPrev = t.keyboardClockPrev)
    (h_bank3Page : s.bank3Page = t.bank3Page)
    (h_nmi : s.nmi = t.nmi)
    (h_irq : s.irq = t.irq)
    (h_firq : s.firq = t.firq)
    (h_ram : s.ram = t.ram)
    (h_kbdBlocked : s.kbdBlocked = t.kbdBlocked)
    (h_started : s.started = t.started)
    (h_hostIn : s.hostIn = t.hostIn)
    (h_diag : s.diag = t.diag)
    (h_serialOut : s.serialOut = t.serialOut)
    (h_hist : s.hist = t.hist)
    (h_answers : s.answers = t.answers)
    (h_created : s.created = t.created)
    (h_env : s.env = t.env) : s = t := by
  cases s; cases t; simp_all

end Sys2Proof.Machine
end

