-- ==== Sys2Proof/Laws/Ops.lean ====
section
/-! SUPPORT. For each shared operation one lemma that says once everything it can do; the proofs cite these. -/

namespace Sys2Proof.Machine

/-! ### Bits -/

theorem getLsbD_putBit (v : Byte) (i j : Nat) (b : Bool) (hi : i < 8) :
    (putBit v i b).getLsbD j = if j = i then b else v.getLsbD j := by
  by_cases hj : j < 8
  · have h1 : (1#8 <<< i).getLsbD j = decide (j = i) := by
      rw [BitVec.getLsbD_shiftLeft, BitVec.getLsbD_one]
      by_cases h : j = i
      · subst h; simp [hj]
      · simp [h]; omega
    unfold putBit
    cases b
    · simp only [Bool.false_eq_true, if_false, BitVec.getLsbD_and, BitVec.getLsbD_not, h1, decide_eq_true hj]
      by_cases h : j = i <;> simp [h]
    · simp only [if_true, BitVec.getLsbD_or, h1]
      by_cases h : j = i <;> simp [h]
  · have hji : j ≠ i := by omega
    rw [if_neg hji, BitVec.getLsbD_of_ge _ _ (by omega), BitVec.getLsbD_of_ge _ _ (by omega)]

theorem kbdDataBit_index_lt (d : KbdDataBit) : d.index < 8 := by cases d <;> decide

theorem kbdDataBit_index_ne_card (d : KbdDataBit) : d.index ≠ cardBit := by cases d <;> decide

/-- Every bit of the port-B byte: bit 4, the keyboard-data bit, and the draw's bits elsewhere. -/
theorem getLsbD_portBByte (draw : Byte) (card dataLine : Bool) (d : KbdDataBit) (j : Nat) :
    (portBByte draw card dataLine d).getLsbD j =
      if j = d.index then !dataLine else if j = cardBit then !card else draw.getLsbD j := by
  unfold portBByte
  rw [getLsbD_putBit _ _ _ _ (kbdDataBit_index_lt d), getLsbD_putBit _ _ _ _ (by decide)]

/-! ### Updates of several fields -/

/-- Presenting a level: the line has it, it is recorded, nothing else changes. -/
theorem State.driveLine_eq (s : State) (line : CpuLine) (l : Bool) :
    s.driveLine line l = (s.setLine line l).record (.cpuLine line l) := rfl

/-- A bank selection changes the page and nothing else. -/
theorem State.selectBank3_eq (s : State) (v : Byte) : s.selectBank3 v = s.setPage (v.toNat % s.cfg.numBanks) := rfl

theorem State.selectBank3_page_lt (s : State) (v : Byte) (h : 2 ≤ s.cfg.numBanks) :
    (s.selectBank3 v).bank3Page < s.cfg.numBanks := Nat.mod_lt _ (by omega)

/-- A port-B query returns a byte whose two defined bits are right, draws once, and changes nothing else. -/
theorem State.queryPortB_spec (s : State) :
    ∃ b, isPortBByte s b ∧ s.queryPortB = (s.setEnv s.env.nextDraw).answer (.pia b) := by
  refine ⟨_, ⟨?_, ?_⟩, rfl⟩
  · rw [getLsbD_portBByte, if_neg (Ne.symm (kbdDataBit_index_ne_card _)), if_pos rfl]
  · rw [getLsbD_portBByte, if_pos rfl]

/-! ### Callbacks inside an access -/

/-- What the PIA's callbacks do, all of it: the page of the last port-A report, the level of the last FIRQ report with
one record each, one answer to each port-B query; nothing else but draws changes. -/
theorem State.piaCallbacks_spec (cs : List PiaCallback) (s : State) :
    ∃ (bs : List Byte) (n : Nat), bs.length = portBQueries cs ∧ (∀ b ∈ bs, isPortBByte s b) ∧
      cs.foldl State.piaCallback s =
        { s with
          bank3Page := pageAfter s.cfg s.bank3Page (portAReports cs)
          firq := levelAfter s.firq (firqReports cs)
          hist := s.hist ++ lineRecords .firq (firqReports cs)
          answers := s.answers ++ bs.map .pia
          env := { s.env with draws := n } } := by
  induction cs generalizing s with
  | nil => exact ⟨[], s.env.draws, rfl, by simp, by simp [portAReports, firqReports, pageAfter, levelAfter, lineRecords]⟩
  | cons c cs ih =>
    cases c with
    | portA v =>
      obtain ⟨bs, n, hlen, hbs, heq⟩ := ih (s.selectBank3 v)
      refine ⟨bs, n, hlen, hbs, ?_⟩
      simp only [List.foldl_cons, State.piaCallback, heq, portAReports, firqReports]
      rfl
    | portB =>
      obtain ⟨b, hb, hq⟩ := s.queryPortB_spec
      obtain ⟨bs, n, hlen, hbs, heq⟩ := ih s.queryPortB
      refine ⟨b :: bs, n, by simp [hlen, portBQueries], ?_, ?_⟩
      · intro x hx
        rcases List.mem_cons.mp hx with rfl | hx
        · exact hb
        · have := hbs x hx
          rw [hq] at this
          exact this
      · simp only [List.foldl_cons, State.piaCallback, heq, portAReports, firqReports]
        rw [hq]
        simp [State.answer, State.setEnv, Env.nextDraw]
    | firq l =>
      obtain ⟨bs, n, hlen, hbs, heq⟩ := ih (s.driveLine .firq l)
      refine ⟨bs, n, hlen, hbs, ?_⟩
      simp only [List.foldl_cons, State.piaCallback, heq, portAReports, firqReports]
      simp [State.driveLine, State.setLine, State.record, levelAfter, lineRecords]

/-- What an access to the PIA does (40_bus_dispatch.md R114): one reply consumed and its callbacks processed. -/
theorem State.piaAccess_spec (s : State) :
    ∃ (bs : List Byte) (n : Nat),
      bs.length = portBQueries s.env.piaReply.callbacks ∧ (∀ b ∈ bs, isPortBByte s b) ∧
      s.piaAccess =
        { s with
          bank3Page := pageAfter s.cfg s.bank3Page (portAReports s.env.piaReply.callbacks)
          firq := levelAfter s.firq (firqReports s.env.piaReply.callbacks)
          hist := s.hist ++ lineRecords .firq (firqReports s.env.piaReply.callbacks)
          answers := s.answers ++ bs.map .pia
          env := { s.env with piaReplies := s.env.piaReplies.tail, draws := n } } := by
  obtain ⟨bs, n, hlen, hbs, heq⟩ := State.piaCallbacks_spec s.env.piaReply.callbacks (s.setEnv s.env.takePia)
  exact ⟨bs, n, hlen, hbs, heq⟩

/-- A sequence of reports on one line leaves the last level and one record each. -/
theorem State.driveLines_spec (line : CpuLine) (ls : List Bool) (s : State) :
    ls.foldl (fun t l => t.driveLine line l) s =
      { s.setLine line (levelAfter (s.line line) ls) with hist := s.hist ++ lineRecords line ls } := by
  induction ls generalizing s with
  | nil => cases line <;> simp [levelAfter, lineRecords, State.setLine, State.line]
  | cons l ls ih =>
    rw [List.foldl_cons, ih]
    cases line <;>
      simp [State.driveLine, State.setLine, State.record, State.line, levelAfter, lineRecords]

/-- What an access to the VDP does (40_bus_dispatch.md R114, R120). -/
theorem State.vdpAccess_spec (s : State) :
    s.vdpAccess =
      { s with
        irq := levelAfter s.irq s.env.vdpReply.callbacks
        hist := s.hist ++ lineRecords .irq s.env.vdpReply.callbacks
        env := s.env.takeVdp } := State.driveLines_spec .irq _ _

/-- What an access to the UART does (40_bus_dispatch.md R114, 46_host_io.md R255). -/
theorem State.uartAccess_spec (s : State) :
    s.uartAccess =
      { s with serialOut := s.serialOut ++ s.env.uartReply.callbacks, env := s.env.takeUart } := by
  have h : ∀ (bs : List Byte) (t : State),
      bs.foldl State.emitSerial t = { t with serialOut := t.serialOut ++ bs } := by
    intro bs
    induction bs with
    | nil => simp
    | cons b bs ih => intro t; simp [ih, State.emitSerial]
  exact h _ _

/-- What driving the PIA's clock line does (44_keyboard.md R216, R217): the reported FIRQ levels, then the record. -/
theorem State.drivePiaLine_spec (s : State) (l : Bool) :
    s.drivePiaLine l =
      { s with
        firq := levelAfter s.firq s.env.lineReply
        hist := s.hist ++ lineRecords .firq s.env.lineReply ++ [.piaLine s.cfg.kbdClockLine l]
        env := s.env.takeLine } := by
  unfold State.drivePiaLine
  rw [State.driveLines_spec]
  rfl

/-! ### Accesses to the store -/

/-- A read through a window answers with the store's byte; it stops only outside the store. -/
theorem bankRead_spec (b : Bank) (k : BitVec 14) (s : State) :
    (storeOffset b k s < s.cfg.ramSize ∧
      bankRead b k s = .next (s.markStarted.answer (.cpu (s.ramByte (storeOffset b k s))))) ∨
    (s.cfg.ramSize ≤ storeOffset b k s ∧ bankRead b k s = .fault (.outsideStore (storeOffset b k s))) := by
  unfold bankRead State.storeRead
  by_cases h : storeOffset b k s < s.cfg.ramSize
  · exact .inl ⟨h, by simp [h, State.ramByte]⟩
  · exact .inr ⟨by omega, by simp [h]⟩

/-- A write through a window stores one byte; it stops only outside the store. -/
theorem bankWrite_spec (b : Bank) (k : BitVec 14) (v : Byte) (s : State) :
    (storeOffset b k s < s.cfg.ramSize ∧
      bankWrite b k v s = .next (s.markStarted.setRam (Memory.write s.ram (storeOffset b k s) v))) ∨
    (s.cfg.ramSize ≤ storeOffset b k s ∧ bankWrite b k v s = .fault (.outsideStore (storeOffset b k s))) := by
  unfold bankWrite State.storeWrite
  by_cases h : storeOffset b k s < s.cfg.ramSize
  · exact .inl ⟨h, by simp [h]⟩
  · exact .inr ⟨by omega, by simp [h]⟩

/-- In a legal state every window offset lies in the store, below NUM_BANKS pages (20_memory.md R72). -/
theorem storeOffset_lt (b : Bank) (k : BitVec 14) {s : State} (h : s.Legal) :
    storeOffset b k s < s.cfg.numBanks * Config.pageSize := by
  have hk := k.isLt
  have hn := h.config.pages
  have hp := h.page
  have hm : (s.bank3Page + 1) * 16384 ≤ s.cfg.numBanks * 16384 := Nat.mul_le_mul_right _ hp
  have h2 : 2 * 16384 ≤ s.cfg.numBanks * 16384 := Nat.mul_le_mul_right _ hn
  cases b <;> simp only [storeOffset, bankBase, Config.pageSize] <;> omega

theorem numBanks_le (c : Config) : c.numBanks * Config.pageSize ≤ c.ramSize := Nat.div_mul_le_self _ _

/-! ### Keyboard admission -/

/-- A keyboard event is admitted exactly with a decoder fitted and the keyboard not blocked (44_keyboard.md R215). -/
theorem ifKeyboardAdmitted_spec (s t : State) :
    (s.cfg.kbdPresent = false ∧ ifKeyboardAdmitted s t = .refused .keyboardAbsent) ∨
    (s.cfg.kbdPresent = true ∧ s.kbdBlocked = true ∧ ifKeyboardAdmitted s t = .refused .keyboardWaits) ∨
    (s.cfg.kbdPresent = true ∧ s.kbdBlocked = false ∧ ifKeyboardAdmitted s t = .next t) := by
  unfold ifKeyboardAdmitted
  cases s.cfg.kbdPresent <;> cases s.kbdBlocked <;> simp

/-! ### The diagnostic record -/

theorem hexDigit_mem (n : BitVec 4) : isHexDigit (hexDigit n) = true := by revert n; decide

theorem wholeRecords_diagRecord (v : Byte) : wholeRecords (diagRecord v) = true := by
  simp [diagRecord, wholeRecords, hexDigit_mem]

/-! ### Machine start -/

/-- The fixed map has no overlap, so the configuration check is the page count's (60_exceptions.md R301). -/
theorem configError_eq (c : Config) : configError c = if c.numBanks < 2 then some (.configRam c.ramSize) else none := by
  have h : mapOverlap busMap = none := by decide
  simp [configError, h]

/-- Machine start has no step in a machine already created, is the page count's error below two pages, and leaves the
machine-start values otherwise (70_reset_and_hazards.md R330, 60_exceptions.md R301). -/
theorem execMachineStart_spec (s : State) :
    (s.created = true ∧ execMachineStart s = .refused .startedTwice) ∨
    (s.created = false ∧ s.cfg.numBanks < 2 ∧ execMachineStart s = .fault (.configRam s.cfg.ramSize)) ∨
    (s.created = false ∧ 2 ≤ s.cfg.numBanks ∧ execMachineStart s = .next (freshState s.cfg s.env)) := by
  unfold execMachineStart
  rw [configError_eq]
  cases hc : s.created
  · by_cases hn : s.cfg.numBanks < 2
    · exact .inr (.inl ⟨rfl, hn, by simp [hn, raiseError]⟩)
    · exact .inr (.inr ⟨rfl, by omega, by simp [hn]⟩)
  · exact .inl ⟨rfl, rfl⟩

end Sys2Proof.Machine
end

