-- ==== Sys2Proof/Laws/Exec.lean ====
section
/-! SUPPORT. What an operation that gives a next state can have done: one inversion lemma per meaning with several
outcomes, and one for exec as a whole, from which statements over all operations follow without unfolding a meaning. -/

namespace Sys2Proof.Machine

theorem storeRead_next {s t : State} {off : Nat} (h : s.storeRead off = .next t) :
    t = s.answer (.cpu (Memory.read s.ram off)) := by
  unfold State.storeRead at h
  split at h
  · exact (Host.Outcome.next.inj h).symm
  · cases h

theorem storeWrite_next {s t : State} {off : Nat} {v : Byte} (h : s.storeWrite off v = .next t) :
    off < s.cfg.ramSize ∧ t = s.setRam (Memory.write s.ram off v) := by
  unfold State.storeWrite at h
  split at h
  · next hlt => exact ⟨hlt, (Host.Outcome.next.inj h).symm⟩
  · cases h

theorem admitted_next {s u t : State} (h : ifKeyboardAdmitted s u = .next t) :
    s.cfg.kbdPresent = true ∧ s.kbdBlocked = false ∧ t = u := by
  rcases ifKeyboardAdmitted_spec s u with ⟨_, h'⟩ | ⟨_, _, h'⟩ | ⟨h1, h2, h'⟩ <;> rw [h'] at h
  · cases h
  · cases h
  · exact ⟨h1, h2, (Host.Outcome.next.inj h).symm⟩

theorem cartAttach_next {image : List Byte} {s t : State} (h : execCartAttach image s = .next t) :
    s.started = false ∧ s.cardPresent = false ∧ Config.cartBase + image.length ≤ s.cfg.ramSize ∧
      t = (s.setRam (Memory.load s.ram Config.cartBase image)).setCardPresent true := by
  unfold execCartAttach at h
  split at h
  · cases h
  · next h1 =>
    split at h
    · cases h
    · next h2 =>
      split at h
      · cases h
      · next h3 =>
        refine ⟨by simpa using h1, by simpa using h2, ?_, (Host.Outcome.next.inj h).symm⟩
        simp only [imageTooLarge, decide_eq_true_eq] at h3
        omega

theorem machineStart_next {s t : State} (h : execMachineStart s = .next t) :
    s.created = false ∧ 2 ≤ s.cfg.numBanks ∧ t = freshState s.cfg s.env := by
  rcases execMachineStart_spec s with ⟨_, h'⟩ | ⟨_, _, h'⟩ | ⟨hc, hn, h'⟩ <;> rw [h'] at h
  · cases h
  · cases h
  · exact ⟨hc, hn, (Host.Outcome.next.inj h).symm⟩

theorem rdUart_next {off : BitVec 10} {s t : State} (h : execRdUart off s = .next t) :
    (∃ b bs, s.hostIn = b :: bs ∧ t = (s.markStarted.setHostIn bs).answer (.cpu b)) ∨
    (∃ v r, t = s.markStarted.uartAccess.finishRead (.uart off) v r) := by
  unfold execRdUart at h
  split at h
  · unfold debugReceive at h
    split at h
    · cases h
    · next b bs hb => exact .inl ⟨b, bs, hb, (Host.Outcome.next.inj h).symm⟩
  · exact .inr ⟨_, _, (Host.Outcome.next.inj h).symm⟩

/-- What changed, for one operation that is not a machine start: the reports it processed, the level of NMI, what it
appended to each stream, and the three fields whose value the operation's own statement gives. -/
structure Effect where
  pages : List Byte := []
  firqs : List Bool := []
  irqs : List Bool := []
  nmi : Bool
  recs : List HistRec := []
  ans : List Answer := []
  ser : List Byte := []
  dg : List Char := []
  ram : Memory
  hostIn : List Byte
  env : Env

/-- No effect on anything that an effect names. -/
def Effect.none (s : State) : Effect := { nmi := s.nmi, ram := s.ram, hostIn := s.hostIn, env := s.env }

/-- The state after an effect. -/
def Effect.after (e : Effect) (i : Instr) (s : State) : State :=
  { s with
    cardPresent := s.cardPresent || (match i with | .cartAttach _ => true | _ => false)
    controllerSelect := (match i with | .rdSelClr => false | .rdSelSet => true | _ => s.controllerSelect)
    keyboardDataLine := (match i with | .kbdData l => l | _ => s.keyboardDataLine)
    keyboardClockPrev := (match i with | .kbdClock l => l | _ => s.keyboardClockPrev)
    bank3Page := pageAfter s.cfg s.bank3Page e.pages
    nmi := e.nmi
    irq := levelAfter s.irq e.irqs
    firq := levelAfter s.firq e.firqs
    ram := e.ram
    kbdBlocked := (match i with
      | .cpuBoundary => false
      | .kbdClock l => s.keyboardClockPrev && !l && s.cfg.kbdSliceGuard
      | _ => s.kbdBlocked)
    started := s.started || isCpuEvent i
    hostIn := e.hostIn
    diag := s.diag ++ e.dg
    serialOut := s.serialOut ++ e.ser
    hist := s.hist ++ e.recs
    answers := s.answers ++ e.ans
    env := e.env }

/-- What limits the effect of an operation. -/
structure Effect.Allowed (e : Effect) (i : Instr) (s : State) : Prop where
  nmi : (∀ l, i ≠ .svcNmiLevel l) → e.nmi = s.nmi
  irqs : (∀ l, i ≠ .vdpIrqLevel l) →
    e.irqs = (match i with | .rdVdp _ => s.env.vdpReply.callbacks | .wrVdp _ _ => s.env.vdpReply.callbacks | _ => [])
  firqs : (∀ l, i ≠ .piaFirqLevel l) →
    e.firqs = (match i with
      | .rdPia _ => firqReports s.env.piaReply.callbacks
      | .wrPia _ _ => firqReports s.env.piaReply.callbacks
      | .kbdClock _ => s.env.lineReply
      | _ => [])
  pages : (∀ v, i ≠ .piaPortaOut v) →
    e.pages = (match i with
      | .rdPia _ => portAReports s.env.piaReply.callbacks
      | .wrPia _ _ => portAReports s.env.piaReply.callbacks
      | _ => [])
  dg : e.dg = [] ∨ ∃ v, e.dg = diagRecord v
  /-- One yield record at a falling edge, none otherwise. -/
  yielded : e.recs.count .yieldKbd =
    (match i with | .kbdClock l => if s.keyboardClockPrev = true ∧ l = false then 1 else 0 | _ => 0)
  admitted : (∃ l, i = .kbdClock l) ∨ (∃ l, i = .kbdData l) → s.cfg.kbdPresent = true ∧ s.kbdBlocked = false
  ram : (∃ off v, storedOffset i s = some off ∧ off < s.cfg.ramSize ∧ e.ram = Memory.write s.ram off v) ∨
    (∃ image, i = .cartAttach image ∧ Config.cartBase + image.length ≤ s.cfg.ramSize ∧
      e.ram = Memory.load s.ram Config.cartBase image) ∨ e.ram = s.ram

@[simp] theorem levelAfter_nil (l : Bool) : levelAfter l [] = l := rfl

@[simp] theorem pageAfter_nil (c : Config) (p : Nat) : pageAfter c p [] = p := rfl

theorem count_lineRecords (line : CpuLine) (ls : List Bool) : (lineRecords line ls).count .yieldKbd = 0 := by
  simp [lineRecords, List.count_eq_zero]

/-- Every operation but a machine start has one of these effects when it gives a next state. -/
theorem exec_effect {i : Instr} {s t : State} (h : exec i s = .next t) (hi : i ≠ .machineStart) :
    ∃ e : Effect, t = e.after i s ∧ e.Allowed i s := by
  cases i <;> simp only [exec] at h
  case rdBank1 k | rdBank2 k | rdBank3 k =>
    obtain rfl := storeRead_next h
    exact ⟨{ Effect.none s with ans := [_] }, by
      simp [Effect.after, Effect.none, isCpuEvent, agentOf, State.markStarted, State.answer]
      rfl, by constructor <;> simp [Effect.none]⟩
  case rdPsgData | rdDiag port | rdUnmapped a | rdRom off | rdSelClr | rdSelSet =>
    obtain rfl := Host.Outcome.next.inj h
    exact ⟨{ Effect.none s with ans := [_] }, by
      simp [Effect.after, Effect.none, isCpuEvent, agentOf, State.markStarted, State.answer,
        State.setSelect]
      rfl, by constructor <;> simp [Effect.none]⟩
  case joyRead p raw =>
    obtain rfl := Host.Outcome.next.inj h
    exact ⟨{ Effect.none s with ans := [_] }, by
      simp [Effect.after, Effect.none, isCpuEvent, agentOf, State.answer]
      rfl, by constructor <;> simp [Effect.none]⟩
  case rdPia off =>
    obtain rfl := Host.Outcome.next.inj h
    obtain ⟨bs, n, -, -, heq⟩ := State.piaAccess_spec s.markStarted
    exact ⟨{ Effect.none s with
        pages := portAReports s.env.piaReply.callbacks
        firqs := firqReports s.env.piaReply.callbacks
        recs := lineRecords .firq (firqReports s.env.piaReply.callbacks) ++ [.devRead (.pia off) s.env.piaReply.answer]
        ans := bs.map .pia ++ [.cpu s.env.piaReply.answer]
        env := _ }, by
      simp only [heq, State.finishRead, State.record, State.answer]
      simp [Effect.after, Effect.none, isCpuEvent, agentOf, State.markStarted]
      rfl, by constructor <;> simp [Effect.none, List.count_append, count_lineRecords]⟩
  case wrPia off v =>
    obtain rfl := Host.Outcome.next.inj h
    obtain ⟨bs, n, -, -, heq⟩ := State.piaAccess_spec s.markStarted
    exact ⟨{ Effect.none s with
        pages := portAReports s.env.piaReply.callbacks
        firqs := firqReports s.env.piaReply.callbacks
        recs := lineRecords .firq (firqReports s.env.piaReply.callbacks) ++ [.devWrite (.pia off) v]
        ans := bs.map .pia
        env := _ }, by
      simp only [heq, State.record]
      simp [Effect.after, Effect.none, isCpuEvent, agentOf, State.markStarted]
      rfl, by constructor <;> simp [Effect.none, List.count_append, count_lineRecords]⟩
  case rdUart off =>
    rcases rdUart_next h with ⟨b, bs, hb, rfl⟩ | ⟨v, r, rfl⟩
    · exact ⟨{ Effect.none s with ans := [.cpu b], hostIn := bs }, by
        simp [Effect.after, Effect.none, isCpuEvent, agentOf, State.markStarted, State.answer,
          State.setHostIn], by constructor <;> simp [Effect.none]⟩
    · exact ⟨{ Effect.none s with
          ser := s.env.uartReply.callbacks, recs := [.devRead (.uart off) v], ans := [.cpu r], env := _ }, by
        simp only [State.uartAccess_spec, State.finishRead, State.record, State.answer]
        simp [Effect.after, Effect.none, isCpuEvent, agentOf, State.markStarted]
        rfl, by constructor <;> simp [Effect.none]⟩
  case wrUart off v =>
    obtain rfl := Host.Outcome.next.inj h
    exact ⟨{ Effect.none s with
        ser := s.env.uartReply.callbacks, recs := [.devWrite (.uart off) v], env := _ }, by
      simp only [State.uartAccess_spec, State.record]
      simp [Effect.after, Effect.none, isCpuEvent, agentOf, State.markStarted]
      rfl, by constructor <;> simp [Effect.none]⟩
  case rdVdp port =>
    obtain rfl := Host.Outcome.next.inj h
    exact ⟨{ Effect.none s with
        irqs := s.env.vdpReply.callbacks
        recs := lineRecords .irq s.env.vdpReply.callbacks ++ [.devRead (.vdp port) s.env.vdpReply.answer]
        ans := [.cpu s.env.vdpReply.answer]
        env := _ }, by
      simp only [State.vdpAccess_spec, State.finishRead, State.record, State.answer]
      simp [Effect.after, Effect.none, isCpuEvent, agentOf, State.markStarted]
      rfl, by constructor <;> simp [Effect.none, List.count_append, count_lineRecords]⟩
  case wrVdp port v =>
    obtain rfl := Host.Outcome.next.inj h
    exact ⟨{ Effect.none s with
        irqs := s.env.vdpReply.callbacks
        recs := lineRecords .irq s.env.vdpReply.callbacks ++ [.devWrite (.vdp port) v]
        env := _ }, by
      simp only [State.vdpAccess_spec, State.record]
      simp [Effect.after, Effect.none, isCpuEvent, agentOf, State.markStarted]
      rfl, by constructor <;> simp [Effect.none, List.count_append, count_lineRecords]⟩
  case rdPsgStatus =>
    obtain rfl := Host.Outcome.next.inj h
    exact ⟨{ Effect.none s with recs := [_], ans := [_], env := _ }, by
      simp [Effect.after, Effect.none, isCpuEvent, agentOf, State.markStarted, State.psgAccess,
        State.setEnv, State.finishRead, State.record, State.answer]
      exact ⟨rfl, rfl, rfl⟩, by constructor <;> simp [Effect.none]⟩
  case wrPsgAddr v | wrPsgData v =>
    obtain rfl := Host.Outcome.next.inj h
    exact ⟨{ Effect.none s with recs := [.devWrite _ v] }, by
      simp [Effect.after, Effect.none, isCpuEvent, agentOf, State.markStarted, State.record]
      rfl, by constructor <;> simp [Effect.none]⟩
  case wrBank1 k v | wrBank2 k v | wrBank3 k v =>
    obtain ⟨hlt, rfl⟩ := storeWrite_next h
    refine ⟨{ Effect.none s with ram := _ }, by
      simp [Effect.after, Effect.none, isCpuEvent, agentOf, State.markStarted, State.setRam]
      rfl, ?_⟩
    constructor
    case ram => exact .inl ⟨_, v, rfl, hlt, rfl⟩
    all_goals simp [Effect.none]
  case wrSelClr v | wrSelSet v | wrRom off v | wrUnmapped a v =>
    obtain rfl := Host.Outcome.next.inj h
    exact ⟨Effect.none s, by
      simp [Effect.after, Effect.none, isCpuEvent, agentOf, State.markStarted],
      by constructor <;> simp [Effect.none]⟩
  case wrDiag port v =>
    obtain rfl := Host.Outcome.next.inj h
    refine ⟨{ Effect.none s with dg := diagRecord v }, by
      simp [Effect.after, Effect.none, isCpuEvent, agentOf, State.markStarted, State.emitDiag],
      ?_⟩
    constructor
    case dg => exact .inr ⟨v, rfl⟩
    all_goals simp [Effect.none]
  case cpuBoundary =>
    obtain rfl := Host.Outcome.next.inj h
    exact ⟨Effect.none s, by
      simp [Effect.after, Effect.none, isCpuEvent, agentOf, State.markStarted, State.setBlocked],
      by constructor <;> simp [Effect.none]⟩
  case piaPortaOut v =>
    obtain rfl := Host.Outcome.next.inj h
    exact ⟨{ Effect.none s with pages := [v] }, by
      simp [Effect.after, Effect.none, pageAfter, isCpuEvent, agentOf, State.selectBank3, State.setPage],
      by constructor <;> simp [Effect.none]⟩
  case piaPortbIn =>
    obtain rfl := Host.Outcome.next.inj h
    exact ⟨{ Effect.none s with ans := [_], env := _ }, by
      simp [Effect.after, Effect.none, isCpuEvent, agentOf, State.queryPortB, State.setEnv,
        State.answer]
      exact ⟨rfl, rfl⟩, by constructor <;> simp [Effect.none]⟩
  case piaFirqLevel l =>
    obtain rfl := Host.Outcome.next.inj h
    exact ⟨{ Effect.none s with firqs := [l], recs := [.cpuLine .firq l] }, by
      simp [Effect.after, Effect.none, levelAfter, isCpuEvent, agentOf, State.driveLine, State.setLine,
        State.record], by constructor <;> simp [Effect.none]⟩
  case vdpIrqLevel l =>
    obtain rfl := Host.Outcome.next.inj h
    exact ⟨{ Effect.none s with irqs := [l], recs := [.cpuLine .irq l] }, by
      simp [Effect.after, Effect.none, levelAfter, isCpuEvent, agentOf, State.driveLine, State.setLine,
        State.record], by constructor <;> simp [Effect.none]⟩
  case svcNmiLevel l =>
    obtain rfl := Host.Outcome.next.inj h
    exact ⟨{ Effect.none s with nmi := l, recs := [.cpuLine .nmi l] }, by
      simp [Effect.after, Effect.none, isCpuEvent, agentOf, State.driveLine, State.setLine,
        State.record], by constructor <;> simp [Effect.none]⟩
  case kbdClock l =>
    obtain ⟨hp, hb, rfl⟩ := admitted_next h
    let e : Effect := { Effect.none s with
      firqs := s.env.lineReply
      recs := lineRecords .firq s.env.lineReply ++ [.piaLine s.cfg.kbdClockLine l] ++
        (if s.keyboardClockPrev = true ∧ l = false then [.yieldKbd] else [])
      env := s.env.takeLine }
    have hafter : clockLevel l s = e.after (.kbdClock l) s := by
      unfold clockLevel
      rw [State.drivePiaLine_spec]
      cases hk : s.keyboardClockPrev <;> cases l <;>
        simp [e, Effect.after, Effect.none, isCpuEvent, agentOf, fallingEdge, State.yieldKeyboard, State.record,
          State.setBlocked, State.setClockPrev, hb, hk]
    have hcount : e.recs.count .yieldKbd = if s.keyboardClockPrev = true ∧ l = false then 1 else 0 := by
      cases hk : s.keyboardClockPrev <;> cases l <;> simp [e, hk, List.count_append, count_lineRecords]
    refine ⟨e, hafter, ?_⟩
    constructor
    case yielded => exact hcount
    case admitted => exact fun _ => ⟨hp, hb⟩
    all_goals simp [e, Effect.none]
  case kbdData l =>
    obtain ⟨hp, hb, rfl⟩ := admitted_next h
    exact ⟨Effect.none s, by
      simp [Effect.after, Effect.none, isCpuEvent, agentOf, State.setDataLine],
      by constructor <;> simp [Effect.none, hp, hb]⟩
  case uartTx b =>
    obtain rfl := Host.Outcome.next.inj h
    exact ⟨{ Effect.none s with ser := [b] }, by
      simp [Effect.after, Effect.none, isCpuEvent, agentOf, State.emitSerial],
      by constructor <;> simp [Effect.none]⟩
  case hostSerialIn b =>
    obtain rfl := Host.Outcome.next.inj h
    exact ⟨{ Effect.none s with hostIn := _ }, by
      simp [Effect.after, Effect.none, isCpuEvent, agentOf, State.setHostIn]
      rfl, by constructor <;> simp [Effect.none]⟩
  case cartAttach image =>
    obtain ⟨hs, hc, hlen, rfl⟩ := cartAttach_next h
    refine ⟨{ Effect.none s with ram := _ }, by
      simp [Effect.after, Effect.none, isCpuEvent, agentOf, State.setRam, State.setCardPresent]
      rfl, ?_⟩
    constructor
    case ram => exact .inr (.inl ⟨image, rfl, hlen, rfl⟩)
    all_goals simp [Effect.none]
  case machineStart => exact absurd rfl hi

end Sys2Proof.Machine
end

