-- ==== Sys2Proof/Laws/Step.lean ====
section
/-! SUPPORT. What a step does with the next pending event: its admission, its meaning, and an opcode-table word as the
one pending event. -/

namespace Sys2Proof.Machine

@[simp] theorem isMachineStart_eq_true {i : Instr} : isMachineStart i = true ↔ i = .machineStart := by
  cases i <;> simp [isMachineStart]

theorem isMachineStart_eq_false {i : Instr} (h : i ≠ .machineStart) : isMachineStart i = false :=
  Bool.eq_false_iff.mpr (mt isMachineStart_eq_true.mp h)

/-- An event is processed by its meaning, or has no step because the machine is not created yet
(70_reset_and_hazards.md R330). -/
theorem processEvent_spec (i : Instr) (s : State) :
    ((s.created = true ∨ i = .machineStart) ∧ processEvent i s = exec i s) ∨
    (s.created = false ∧ i ≠ .machineStart ∧ processEvent i s = .refused .beforeMachineStart) := by
  unfold processEvent
  by_cases hi : i = .machineStart
  · exact .inl ⟨.inr hi, by simp [hi, isMachineStart]⟩
  · have hm := isMachineStart_eq_false hi
    cases hc : s.created
    · exact .inr ⟨rfl, hi, by simp [hm]⟩
    · exact .inl ⟨.inl rfl, by simp⟩

/-- An admitted event is processed by its meaning. -/
theorem processEvent_admitted {i : Instr} {s : State} (h : s.created = true ∨ i = .machineStart) :
    processEvent i s = exec i s := by
  rcases processEvent_spec i s with ⟨_, h'⟩ | ⟨hc, hi, _⟩
  · exact h'
  · rcases h with h | h
    · rw [hc] at h; cases h
    · exact absurd h hi

/-- A next state comes from the meaning. -/
theorem processEvent_next {i : Instr} {s t : State} (h : processEvent i s = .next t) :
    (s.created = true ∨ i = .machineStart) ∧ exec i s = .next t := by
  rcases processEvent_spec i s with ⟨ha, h'⟩ | ⟨_, _, h'⟩ <;> rw [h'] at h
  · exact ⟨ha, h⟩
  · cases h

/-- One pending event is the next event, waiting or not. -/
theorem nextEvent_single {s : State} {t : Transaction} (h : s.env.inbox = [t]) : nextEvent s = some (t, []) := by
  unfold nextEvent
  rw [h]
  simp only [pickEvent]
  cases decode t with
  | error why => rfl
  | ok i => by_cases hw : isWait (processEvent i s) = true <;> simp [hw]

/-- A next event that decodes is processed. -/
theorem step_of_nextEvent {s : State} {t : Transaction} {rest : List Transaction} {i : Instr}
    (hn : nextEvent s = some (t, rest)) (hd : decode t = .ok i) : step s = processEvent i (s.taking rest) := by
  simp only [step, hn, hd]

/-- What a step that gives a next state did: its event was admitted, and its meaning gave that state. -/
theorem step_next {s t : State} (h : step s = .next t) :
    ∃ u rest i, nextEvent s = some (u, rest) ∧ decode u = .ok i ∧ (s.created = true ∨ i = .machineStart) ∧
      exec i (s.taking rest) = .next t := by
  unfold step at h
  split at h
  · cases h
  · next u rest hn =>
    split at h
    · cases h
    · next i hd =>
      obtain ⟨ha, hx⟩ := processEvent_next h
      exact ⟨u, rest, i, hn, hd, ha, hx⟩

/-- The step after `withFetchWord` runs the instruction that the table word decodes to. -/
theorem step_withFetchWord {s : State} {nbits w : Nat} {i : Instr} (h : decodeTableWord nbits w = some i) :
    step (s.withFetchWord nbits w) =
      exec i ((s.setEnv (s.env.setInbox [])).setCreated (!isMachineStart i)) := by
  have hd : decode (tableTransaction nbits w) = .ok i := by
    unfold decodeTableWord at h
    split at h
    · next j hj => rw [hj, Option.some.inj h]
    · cases h
  have hm : spellsMachineStart (tableTransaction nbits w) = isMachineStart i := by
    simp only [spellsMachineStart, hd]
  have ho : (s.withFetchWord nbits w).taking [] =
      (s.setEnv (s.env.setInbox [])).setCreated (!isMachineStart i) := by
    unfold State.withFetchWord State.offering
    rw [hm]
    rfl
  rw [step_of_nextEvent (nextEvent_single rfl) hd, ho, processEvent_admitted]
  by_cases hi : i = .machineStart
  · exact .inr hi
  · exact .inl (by rw [State.setCreated_created, isMachineStart_eq_false hi]; rfl)

end Sys2Proof.Machine
end

