-- ==== Sys2Proof/Tests/Slice0.lean ====
section
/-! SUPPORT. Checks of the model on fixed values. The expected values come from spec/95_test_vectors.md (V-…, P…) or are
worked out by hand from the rule named. Then one witness for the hypotheses of each statement that has some. -/

namespace Sys2Proof.Machine.Tests

/-! ### The states the tests run in -/

/-- The default parameters of 95_test_vectors.md, the open ones at one legal value each, two ROM bytes supplied. -/
def demoCfg : Config :=
  { ramSize := 524288, openBus := 0xFF, rom := [0x86, 0xAB], ramInit := [], bank3Draw := 0, kbdPresent := true,
    kbdDataBit := .b5, kbdClockLine := "K", kbdSliceGuard := true, uartDebugStdio := false, uartDrBit := 0 }

/-- The state after machine start under parameters `c`. -/
def started (c : Config) : State := freshState c Env.silent

def demo : State := started demoCfg

def withRam (n : Nat) : State := started { demoCfg with ramSize := n }

def debugDemo : State := started { demoCfg with uartDebugStdio := true }

def noKeyboard : State := started { demoCfg with kbdPresent := false }

def unguarded : State := started { demoCfg with kbdSliceGuard := false }

/-- A field of the next state, if there is one. -/
def got {α : Type} (r : Result) (f : State → α) : Option α :=
  match r with
  | .next t => some (f t)
  | .fault _ => none
  | .refused _ => none

/-- The name under which an operation stopped, if it did. -/
def stopped (r : Result) : Option (Fault ⊕ Refusal) :=
  match r with
  | .next _ => none
  | .fault f => some (.inl f)
  | .refused f => some (.inr f)

theorem next_of_got {r : Result} (h : got r (fun _ => ()) = some ()) : ∃ t, r = .next t :=
  match r with
  | .next t => ⟨t, rfl⟩
  | .fault _ => nomatch h
  | .refused _ => nomatch h

/-- A field after a sequence of operations. -/
def gotAll {α : Type} (is : List Instr) (s : State) (f : State → α) : Option α := (execAll is s).map f

/-! ### Well-formedness and decoding (30_encoding.md R91 to R97, V-ENC) -/

theorem test_wellFormed_refuses_mapped_read : wellFormed (.rdUnmapped 0x0000) = false := by decide

theorem test_wellFormed_refuses_mapped_write : wellFormed (.wrUnmapped 0xE000 0x12) = false := by decide

theorem test_wellFormed_unmapped_boundaries :
    ([0xC800, 0xCBFF, 0xCC04, 0xCC05, 0xCC07, 0xCC0D, 0xCC0F, 0xCCFF, 0xCD02, 0xDFFF].all
      fun a => wellFormed (.rdUnmapped a)) = true ∧
    ([0xC7FF, 0xCC00, 0xCC03, 0xCC06, 0xCC0E, 0xCD00, 0xCD01, 0xE000].all
      fun a => !wellFormed (.rdUnmapped a)) = true := by decide

theorem test_decode_bus_reads :
    decode ⟨0x00000000, []⟩ = .ok (.rdBank1 0) ∧
    decode ⟨0x00412300, []⟩ = .ok (.rdBank2 0x0123) ∧
    decode ⟨0x00BFFF00, []⟩ = .ok (.rdBank3 0x3FFF) ∧
    decode ⟨0x00C00500, []⟩ = .ok (.rdPia 5) ∧
    decode ⟨0x00C7FF00, []⟩ = .ok (.rdUart 0x3FF) ∧
    decode ⟨0x00CC0100, []⟩ = .ok (.rdVdp 1) ∧
    decode ⟨0x00CC0200, []⟩ = .ok .rdPsgStatus ∧
    decode ⟨0x00CC0300, []⟩ = .ok .rdPsgData ∧
    decode ⟨0x00CC0600, []⟩ = .ok .rdSelClr ∧
    decode ⟨0x00CC0E00, []⟩ = .ok .rdSelSet ∧
    decode ⟨0x00CD0100, []⟩ = .ok (.rdDiag 1) ∧
    decode ⟨0x00E00700, []⟩ = .ok (.rdRom 7) ∧
    decode ⟨0x00D00000, []⟩ = .ok (.rdUnmapped 0xD000) := by decide

theorem test_decode_bus_writes :
    decode ⟨0x01012311, []⟩ = .ok (.wrBank1 0x0123 0x11) ∧
    decode ⟨0x017FFF22, []⟩ = .ok (.wrBank2 0x3FFF 0x22) ∧
    decode ⟨0x01800033, []⟩ = .ok (.wrBank3 0 0x33) ∧
    decode ⟨0x01C00100, []⟩ = .ok (.wrPia 1 0) ∧
    decode ⟨0x01C40041, []⟩ = .ok (.wrUart 0 0x41) ∧
    decode ⟨0x01CC0180, []⟩ = .ok (.wrVdp 1 0x80) ∧
    decode ⟨0x01CC0207, []⟩ = .ok (.wrPsgAddr 0x07) ∧
    decode ⟨0x01CC033F, []⟩ = .ok (.wrPsgData 0x3F) ∧
    decode ⟨0x01CC0601, []⟩ = .ok (.wrSelClr 0x01) ∧
    decode ⟨0x01CC0EFF, []⟩ = .ok (.wrSelSet 0xFF) ∧
    decode ⟨0x01CD01AB, []⟩ = .ok (.wrDiag 1 0xAB) ∧
    decode ⟨0x01FFFF12, []⟩ = .ok (.wrRom 0x1FFF 0x12) ∧
    decode ⟨0x01C80077, []⟩ = .ok (.wrUnmapped 0xC800 0x77) := by decide

theorem test_decode_events :
    decode ⟨0x02000000, []⟩ = .ok .cpuBoundary ∧
    decode ⟨0x10000021, []⟩ = .ok (.piaPortaOut 0x21) ∧
    decode ⟨0x11000000, []⟩ = .ok .piaPortbIn ∧
    decode ⟨0x12000001, []⟩ = .ok (.piaFirqLevel true) ∧
    decode ⟨0x20000000, []⟩ = .ok (.vdpIrqLevel false) ∧
    decode ⟨0x30000001, []⟩ = .ok (.svcNmiLevel true) ∧
    decode ⟨0x40000000, []⟩ = .ok (.kbdClock false) ∧
    decode ⟨0x41000001, []⟩ = .ok (.kbdData true) ∧
    decode ⟨0x5000019C, []⟩ = .ok (.joyRead 1 0x9C) ∧
    decode ⟨0x60000041, []⟩ = .ok (.uartTx 0x41) ∧
    decode ⟨0x6100000D, []⟩ = .ok (.hostSerialIn 0x0D) ∧
    decode ⟨0x70000000, [0xA5, 0x5A]⟩ = .ok (.cartAttach [0xA5, 0x5A]) ∧
    decode ⟨0x7F000000, []⟩ = .ok .machineStart := by decide

theorem test_decode_refuses :
    decode ⟨0x00CC0601, []⟩ = .error .unusedBits ∧ decode ⟨0x5000029C, []⟩ = .error .unusedBits ∧
    decode ⟨0x03000000, []⟩ = .error (.unknownKind 0x03) ∧ decode ⟨0x12000002, []⟩ = .error .unusedBits ∧
    decode ⟨0x10000121, []⟩ = .error .unusedBits ∧ decode ⟨0x02000001, []⟩ = .error .unusedBits ∧
    decode ⟨0x00000000, [0x01]⟩ = .error .strayImage := by decide

/-- The boundary table of 95_test_vectors.md section 2.1. -/
theorem test_region_boundaries :
    [0x0000, 0x3FFF, 0x4000, 0x7FFF, 0x8000, 0xBFFF, 0xC000, 0xC3FF, 0xC400, 0xC7FF, 0xC800, 0xCBFF, 0xCC00, 0xCC01,
      0xCC02, 0xCC03, 0xCC04, 0xCC05, 0xCC06, 0xCC07, 0xCC0D, 0xCC0E, 0xCC0F, 0xCCFF, 0xCD00, 0xCD01, 0xCD02, 0xDFFF,
      0xE000, 0xFFFF].map region =
    [.bank1, .bank1, .bank2, .bank2, .bank3, .bank3, .pia, .pia, .uart, .uart, .unmapped, .unmapped, .vdp, .vdp,
      .psgA, .psgD, .unmapped, .unmapped, .selClr, .unmapped, .unmapped, .selSet, .unmapped, .unmapped, .diag, .diag,
      .unmapped, .unmapped, .rom, .rom] := by decide

/-- R301 (a): a map with a row inside another; the lowest address they share, worked out by hand. -/
def overlappingMap : List MapRow := busMap ++ [⟨.selSet, 0xC40C, 0xFFFC⟩, ⟨.diag, 0x0003, 0x0003⟩]

theorem test_overlap_found : mapOverlap overlappingMap = some 0x0003 := by decide

theorem test_overlap_found_inside :
    mapOverlap (busMap ++ [⟨.selSet, 0xC40C, 0xFFFC⟩]) = some 0xC40C ∧ mapOverlap busMap = none := by decide

/-! ### Bus reads and writes (V-BUS) -/

theorem test_rdBank1_after_write : gotAll [.wrBank1 0x0200 0x5A, .rdBank1 0x0200] demo (·.answers) = some [.cpu 0x5A] := by
  decide

theorem test_bank2_sees_bank3_page1 :
    gotAll [.piaPortaOut 0x21, .wrBank3 0x0123 0x22, .rdBank2 0x0123] demo (·.answers) = some [.cpu 0x22] := by decide

theorem test_bank3_last_byte :
    gotAll [.piaPortaOut 0x1F, .wrBank3 0x3FFF 0xEE] demo (·.ram) = some [(0x7FFFF, 0xEE)] := by decide

theorem test_rdBank3_page0_is_bank1 :
    gotAll [.piaPortaOut 0x00, .wrBank1 0x0123 0x11, .rdBank3 0x0123] demo (·.answers) = some [.cpu 0x11] := by decide

theorem test_wrBank2_offset : got (exec (.wrBank2 0 0x77) demo) (·.ram) = some [(0x4000, 0x77)] := by decide

/-- V-BUS-12, with the PIA reporting a page and an FIRQ level and asking for port B while it answers (R114). -/
def piaBusy : State :=
  { demo with env := { demo.env with piaReplies := [⟨0x3C, [.portA 0x21, .firq true]⟩, ⟨0, [.portA 2]⟩] } }

theorem test_rdPia_callbacks :
    got (exec (.rdPia 0) piaBusy) (fun t => (t.bank3Page, t.firq, t.hist, t.answers, t.env.piaReplies.length)) =
      some (1, true, [.cpuLine .firq true, .devRead (.pia 0) 0x3C], [.cpu 0x3C], 1) := by decide

theorem test_wrPia_forwards :
    got (exec (.wrPia 1 0x07) piaBusy) (fun t => (t.bank3Page, t.firq, t.hist, t.answers)) =
      some (1, true, [.cpuLine .firq true, .devWrite (.pia 1) 0x07], []) := by decide

theorem test_wrUart_mirror :
    got (exec (.wrUart 0x3FF 0x41) demo) (·.hist) = some [.devWrite (.uart 0x3FF) 0x41] := by decide

/-- A UART that answers `v`. -/
def uartAnswers (v : Byte) (s : State) : State := { s with env := { s.env with uartReplies := [⟨v, [0x21]⟩] } }

theorem test_rdUart_forwarded :
    got (exec (.rdUart 0) (uartAnswers 0x60 demo)) (fun t => (t.answers, t.serialOut, t.hist)) =
      some ([.cpu 0x60], [0x21], [.devRead (.uart 0) 0x60]) := by decide

theorem test_rdUart_debug_status :
    got (exec (.rdUart 5) (uartAnswers 0x60 debugDemo)) (fun t => (t.answers, t.hist)) =
      some ([.cpu 0x61], [.devRead (.uart 5) 0x60]) ∧
    got (exec (.rdUart 8) (uartAnswers 0x00 debugDemo)) (·.answers) = some [.cpu 0x00] := by decide

theorem test_debug_receive :
    gotAll [.hostSerialIn 0x0D, .rdUart 0] debugDemo (fun t => (t.answers, t.hostIn, t.hist)) =
      some ([.cpu 0x0D], [], []) := by decide

theorem test_debug_receive_waits : stopped (exec (.rdUart 0) debugDemo) = some (.inr .debugReceiveWaits) := by decide

/-- A VDP that answers 0x9F and drops its interrupt. -/
def vdpBusy : State := { demo with irq := true, env := { demo.env with vdpReplies := [⟨0x9F, [false]⟩] } }

theorem test_rdVdp_status_read :
    got (exec (.rdVdp 1) vdpBusy) (fun t => (t.irq, t.answers, t.hist)) =
      some (false, [.cpu 0x9F], [.cpuLine .irq false, .devRead (.vdp 1) 0x9F]) := by decide

theorem test_wrVdp : got (exec (.wrVdp 1 0x80) demo) (·.hist) = some [.devWrite (.vdp 1) 0x80] := by decide

theorem test_psg_in_order :
    gotAll [.wrPsgAddr 0x07, .wrPsgData 0x3F, .rdPsgStatus]
      { demo with env := { demo.env with psgReplies := [0x55] } } (fun t => (t.answers, t.hist)) =
      some ([.cpu 0x55], [.devWrite .psgAddrLatch 0x07, .devWrite .psgData 0x3F, .devRead .psgStatus 0x55]) := by decide

theorem test_open_bus_reads :
    gotAll [.rdUnmapped 0xC800, .rdPsgData, .rdDiag 0] demo (fun t => (t.answers, t.hist, t.diag)) =
      some ([.cpu 0xFF, .cpu 0xFF, .cpu 0xFF], [], []) ∧
    got (exec (.rdUnmapped 0xDFFF) (started { demoCfg with openBus := 0x00 })) (·.answers) = some [.cpu 0x00] := by decide

theorem test_rdRom : gotAll [.rdRom 0, .rdRom 1] demo (·.answers) = some [.cpu 0x86, .cpu 0xAB] := by decide

theorem test_select_reads :
    gotAll [.rdSelClr, .rdSelClr] demo (fun t => (t.controllerSelect, t.answers)) = some (false, [.cpu 0, .cpu 0]) ∧
    gotAll [.rdSelClr, .rdSelSet] demo (fun t => (t.controllerSelect, t.answers)) = some (true, [.cpu 0, .cpu 0]) := by
  decide

theorem test_select_writes_do_nothing :
    got (exec (.wrSelClr 0x00) demo) (·.controllerSelect) = some true ∧
    gotAll [.rdSelClr, .wrSelSet 0xFF] demo (·.controllerSelect) = some false := by decide

theorem test_wrRom_wrUnmapped_only_start :
    got (exec (.wrRom 0 0x12) demo) id = some { demo with started := true } ∧
    got (exec (.wrUnmapped 0xD000 0x77) demo) id = some { demo with started := true } := by decide

theorem test_wrDiag :
    gotAll [.wrDiag 0 0x00, .wrDiag 1 0xFF, .wrDiag 0 0x05] demo (·.diag) =
      some ['0', '0', '\n', 'f', 'f', '\n', '0', '5', '\n'] ∧
    got (exec (.wrDiag 0 0xAB) demo) (·.diag) = some ['a', 'b', '\n'] := by decide

/-! ### Banking (V-BANK), multiplexer (V-MUX), lines (V-INT) -/

theorem test_porta_pages :
    [0x00, 0x1F, 0x20, 0xFF, 0x23].map (fun v => got (exec (.piaPortaOut v) demo) (·.bank3Page)) =
      [some 0, some 31, some 0, some 31, some 3] := by decide

theorem test_porta_odd_page_counts :
    got (exec (.piaPortaOut 0xFF) (withRam 327680)) (·.bank3Page) = some 15 ∧
    got (exec (.piaPortaOut 0xFF) (withRam 303104)) (·.bank3Page) = some 3 ∧
    got (exec (.piaPortaOut 0x03) (withRam 32768)) (·.bank3Page) = some 1 := by decide

theorem test_multiplexer_table :
    [0x00, 0xFF, 0x0F, 0x30, 0x3F, 0x40, 0x80, 0xC0, 0x5A, 0xA5, 0x9C, 0x10, 0x20].map
      (fun r => (readPort r true, readPort r false)) =
    [(0xC0, 0xC0), (0xFF, 0xFF), (0xCF, 0xCF), (0xF0, 0xC0), (0xFF, 0xCF), (0xC0, 0xD0), (0xC0, 0xE0), (0xC0, 0xF0),
      (0xDA, 0xDA), (0xE5, 0xE5), (0xDC, 0xEC), (0xD0, 0xC0), (0xE0, 0xC0)] := by decide

/-- Lines of P2. -/
theorem test_joyRead :
    gotAll [.joyRead 0 0x9C, .rdSelClr, .joyRead 1 0x3F] demo (·.answers) =
      some [.joy 0 0xDC, .cpu 0, .joy 1 0xCF] := by decide

theorem test_level_events :
    gotAll [.piaFirqLevel true, .vdpIrqLevel true, .svcNmiLevel true, .svcNmiLevel true, .vdpIrqLevel false] demo
      (fun t => (t.nmi, t.irq, t.firq, t.hist, t.started)) =
      some (true, false, true,
        [.cpuLine .firq true, .cpuLine .irq true, .cpuLine .nmi true, .cpuLine .nmi true, .cpuLine .irq false],
        false) := by decide

/-! ### Keyboard and port B (V-KBD), cartridge (V-CART), serial (V-IO), machine start (V-RST) -/

theorem test_kbdClock_edge :
    got (exec (.kbdClock false) demo) (fun t => (t.keyboardClockPrev, t.kbdBlocked, t.hist)) =
      some (false, true, [.piaLine "K" false, .yieldKbd]) := by decide

/-- V-KBD-6, and a FIRQ level the PIA reports while it handles the first line change (R216). -/
theorem test_kbdClock_unguarded :
    gotAll [.kbdClock false, .kbdClock true, .kbdClock false]
      { unguarded with env := { unguarded.env with lineReplies := [[true]] } }
      (fun t => (t.kbdBlocked, t.firq, t.hist)) =
      some (false, true,
        [.cpuLine .firq true, .piaLine "K" false, .yieldKbd, .piaLine "K" true, .piaLine "K" false, .yieldKbd]) := by
  decide

theorem test_kbdData : gotAll [.kbdData false] demo (fun t => (t.keyboardDataLine, t.hist)) = some (false, []) := by
  decide

/-- V-KBD-2, V-KBD-3, V-KBD-7. -/
theorem test_keyboard_not_admitted :
    stopped (exec (.kbdData false) { demo with kbdBlocked := true }) = some (.inr .keyboardWaits) ∧
    stopped (exec (.kbdClock true) { demo with kbdBlocked := true }) = some (.inr .keyboardWaits) ∧
    stopped (exec (.kbdClock false) noKeyboard) = some (.inr .keyboardAbsent) := by decide

/-- V-KBD-4. -/
theorem test_cpuBoundary_unblocks :
    gotAll [.kbdClock false, .cpuBoundary, .kbdClock true] demo (fun t => (t.kbdBlocked, t.started, t.hist)) =
      some (false, true, [.piaLine "K" false, .yieldKbd, .piaLine "K" true]) := by decide

/-- V-KBD-8, V-KBD-9: the two defined bits over a draw of zeros and of ones; bit 5 is the keyboard's here. -/
theorem test_portB_bits :
    portBByte 0x00 false true .b5 = 0x10 ∧ portBByte 0xFF false true .b5 = 0xDF ∧
    portBByte 0x00 true false .b5 = 0x20 ∧ portBByte 0xFF true false .b5 = 0xEF := by decide

theorem test_piaPortbIn_answers_once :
    got (exec .piaPortbIn demo) (fun t => (t.answers.length, t.hist, t.env.draws)) = some (1, [], 1) := by decide

theorem test_cartAttach :
    got (exec (.cartAttach [0x12, 0x34, 0x56]) demo) (fun t => (t.ram, t.cardPresent)) =
      some ([(0x100, 0x12), (0x101, 0x34), (0x102, 0x56)], true) ∧
    got (exec (.cartAttach []) demo) (fun t => (t.ram, t.cardPresent)) = some ([], true) := by decide

theorem test_cartAttach_rejected :
    stopped (exec (.cartAttach [0x01]) { demo with started := true }) = some (.inr .attachAfterRunBegan) ∧
    stopped (exec (.cartAttach [0x02]) { demo with cardPresent := true }) = some (.inr .attachTwice) ∧
    stopped (exec (.cartAttach [0x01, 0x02]) (withRam 257)) = some (.inl (.capacity 2)) := by decide

theorem test_uartTx : gotAll [.uartTx 0x41, .uartTx 0x00] demo (·.serialOut) = some [0x41, 0x00] := by decide

/-- V-IO-2: outside debug mode a host byte stays queued. -/
theorem test_hostSerialIn_kept :
    gotAll [.hostSerialIn 0x0D, .rdUart 0] (uartAnswers 0x60 demo) (fun t => (t.hostIn, t.answers)) =
      some ([0x0D], [.cpu 0x60]) := by decide

/-- A machine not created yet, its fields at anything. -/
def beforeStart (s : State) : State := s.setCreated false

theorem test_machineStart_sets_every_field :
    got (exec .machineStart (beforeStart { demo with controllerSelect := false, ram := [(5, 7)], started := true })) id =
      some demo := by decide

/-- V-BANK-10 to V-BANK-12. -/
theorem test_machineStart_needs_two_pages :
    stopped (exec .machineStart (beforeStart (withRam 16384))) = some (.inl (.configRam 16384)) ∧
    stopped (exec .machineStart (beforeStart (withRam 32767))) = some (.inl (.configRam 32767)) ∧
    got (exec .machineStart (beforeStart (withRam 32768))) (·.bank3Page) = some 0 := by decide

/-! ### Steps (log 1, log 2) -/

/-- A blocked keyboard holds its events back; the boundary behind them goes first, then the keyboard goes on. -/
def queued : State :=
  { demo with
    kbdBlocked := true
    env := { demo.env with inbox := [⟨0x41000000, []⟩, ⟨0x02000000, []⟩, ⟨0x40000000, []⟩] } }

theorem test_step_waiting_agent :
    got (step queued) (fun t => (t.kbdBlocked, t.env.inbox)) =
      some (false, [⟨0x41000000, []⟩, ⟨0x40000000, []⟩]) := by decide

theorem test_step_stops :
    stopped (step demo) = some (.inr .noEvent) ∧
    stopped (step (demo.offering ⟨0x03000000, []⟩)) = some (.inr (.noOperation (.unknownKind 0x03))) ∧
    stopped (step { queued with env := { demo.env with inbox := [⟨0x41000000, []⟩, ⟨0x40000000, []⟩] } }) =
      some (.inr .keyboardWaits) := by decide

/-- R330: the machine start is the first event of a run, and there is no second one. -/
theorem test_step_machineStart_first_and_once :
    got (step { beforeStart demo with env := { demo.env with inbox := [⟨0x7F000000, []⟩] } }) id = some demo ∧
    stopped (step { demo with env := { demo.env with inbox := [⟨0x7F000000, []⟩] } }) = some (.inr .startedTwice) ∧
    stopped (step { beforeStart demo with env := { demo.env with inbox := [⟨0x00E00000, []⟩, ⟨0x7F000000, []⟩] } }) =
      some (.inr .beforeMachineStart) := by decide

theorem test_step_withFetchWord_machineStart :
    got (step (demo.withFetchWord 32 0x7F000000)) id = some demo := by decide

theorem test_step_withFetchWord :
    got (step (demo.withFetchWord 32 0x01CD00AB)) (·.diag) = some ['a', 'b', '\n'] := by decide

/-! ### Witnesses: for each statement with hypotheses, states and operands that meet them, clause by clause, at the ends
of their ranges -/

/-- A legal state with two pages, running, page 1 selected, one host byte, the card present. -/
def running : State :=
  { withRam 32768 with
    cardPresent := true, bank3Page := 1, ram := [(0x0000, 0x01), (0x7FFF, 0x02)], started := true, hostIn := [0x0D]
    diag := ['a', 'b', '\n'] }

/-- A legal state whose store has a remainder beyond its last whole page. -/
def remainder : State := { withRam 303104 with ram := [(0x49FFF, 0x5A)], bank3Page := 17 }

/-- A legal state with the keyboard blocked. -/
def blocked : State := { demo with keyboardClockPrev := false, kbdBlocked := true, started := true }

theorem demo_legal : demo.Legal := ⟨⟨by decide, rfl, rfl⟩, by decide, rfl, rfl, by decide, by decide, rfl⟩

theorem running_legal : running.Legal := ⟨⟨by decide, rfl, rfl⟩, by decide, rfl, rfl, by decide, by decide, rfl⟩

theorem remainder_legal : remainder.Legal := ⟨⟨by decide, rfl, rfl⟩, by decide, rfl, rfl, by decide, by decide, rfl⟩

theorem blocked_legal : blocked.Legal := ⟨⟨by decide, rfl, rfl⟩, by decide, rfl, rfl, by decide, by decide, rfl⟩

theorem debug_legal : debugDemo.Legal := ⟨⟨by decide, rfl, rfl⟩, by decide, rfl, rfl, by decide, by decide, rfl⟩

theorem noKeyboard_legal : noKeyboard.Legal := ⟨⟨by decide, rfl, rfl⟩, by decide, rfl, rfl, by decide, by decide, rfl⟩

theorem witness_DecodeOfEncodeIsSameInstr :
    wellFormed (.rdUnmapped 0xC800) = true ∧ wellFormed (.wrUnmapped 0xDFFF 0xFF) = true ∧
    wellFormed (.rdBank3 0x3FFF) = true ∧ wellFormed (.cartAttach [0x01]) = true := by decide

theorem witness_EncodeOfDecodeIsSameTransaction :
    decode ⟨0x00D00000, []⟩ = .ok (.rdUnmapped 0xD000) ∧ decode ⟨0x70000000, [1]⟩ = .ok (.cartAttach [1]) := by decide

theorem witness_OtherWordsSpellNoOperation :
    nextEvent (demo.offering ⟨0x12000002, []⟩) = some (⟨0x12000002, []⟩, []) ∧ ¬ spellsOperation 0x12000002 ∧
    nextEvent (demo.offering ⟨0x03000000, []⟩) = some (⟨0x03000000, []⟩, []) ∧ ¬ spellsOperation 0x03000000 := by
  unfold spellsOperation
  decide

/-- Both ends of three rows, and of the unmapped range between ROM and the diagnostic ports. -/
theorem witness_RegionsAreTheMapsRanges :
    (⟨.bank3, 0x8000, 0xC000⟩ : MapRow) ∈ busMap ∧ (⟨.bank3, 0x8000, 0xC000⟩ : MapRow).claims 0x8000 = true ∧
    (⟨.bank3, 0x8000, 0xC000⟩ : MapRow).claims 0xBFFF = true ∧
    (0xCD02, 0xDFFF, Region.unmapped) ∈ mapRanges ∧ 0xCD02 ≤ (0xDFFF : Addr).toNat ∧ (0xDFFF : Addr).toNat ≤ 0xDFFF := by
  decide

theorem witness_OverlapCheckFindsFirstSharedAddress :
    (∀ r ∈ overlappingMap, r.pattern &&& r.mask = r.pattern) ∧ mapOverlap overlappingMap = some 0x0003 ∧
    (∀ r ∈ busMap, r.pattern &&& r.mask = r.pattern) ∧ mapOverlap busMap = none := by decide

theorem witness_StepRunsTheDecodedInstr :
    nextEvent queued = some (⟨0x02000000, []⟩, [⟨0x41000000, []⟩, ⟨0x40000000, []⟩]) ∧
    decode ⟨0x02000000, []⟩ = .ok .cpuBoundary ∧ wellFormed .cpuBoundary = true ∧ queued.created = true ∧
    nextEvent ((beforeStart demo).setEnv { demo.env with inbox := [⟨0x7F000000, []⟩] }) = some (⟨0x7F000000, []⟩, []) ∧
    (demo.offering ⟨0x00000000, []⟩).env.inbox = [⟨0x00000000, []⟩] ∧
    isWait (exec (.rdBank1 0) (demo.offering ⟨0x00000000, []⟩)) = false := by decide

/-- Another agent behind a waiting keyboard; the CPU's own next event behind its waiting debug receive. -/
theorem witness_WaitingAgentLetsOthersGoOn :
    queued.created = true ∧ debugDemo.created = true ∧
    queued.env.inbox = ⟨0x41000000, []⟩ :: ⟨0x02000000, []⟩ :: [⟨0x40000000, []⟩] ∧
    isWait (exec (.kbdData false) queued) = true ∧ isWait (exec .cpuBoundary queued) = false ∧
    agentOf .cpuBoundary ≠ agentOf (.kbdData false) ∧
    isWait (exec (.rdUart 0) debugDemo) = true ∧ isWait (exec (.rdRom 0) debugDemo) = false ∧
    agentOf (.rdRom 0) = agentOf (.rdUart 0) := by decide

theorem witness_WaitsAreLiftedByTheirEvents :
    (blocked.cfg.kbdPresent = true ∧ blocked.kbdBlocked = true ∧ ∃ t, exec .cpuBoundary blocked = .next t) ∧
    (debugDemo.cfg.uartDebugStdio = true ∧ debugDemo.hostIn = [] ∧ ∃ t, exec (.hostSerialIn 0x0D) debugDemo = .next t) ∧
    (running.started = true ∧ Instr.rdSelClr ≠ .machineStart ∧ ∃ t, exec .rdSelClr running = .next t) :=
  ⟨⟨rfl, rfl, _, rfl⟩, ⟨rfl, rfl, _, rfl⟩, rfl, by decide, _, rfl⟩

theorem witness_MachineStartLeavesStartValues :
    (beforeStart (withRam 32768)).created = false ∧ 2 ≤ (beforeStart (withRam 32768)).cfg.ramSize / 16384 ∧
    (beforeStart demo).created = false ∧ 2 ≤ (beforeStart demo).cfg.ramSize / 16384 := by decide

/-- A second start; another event before the start; a completed start and a completed event after it. -/
theorem witness_MachineStartIsFirstAndOnce :
    demo.created = true ∧ (beforeStart demo).created = false ∧
    nextEvent ((beforeStart demo).setEnv { demo.env with inbox := [⟨0x00E00000, []⟩] }) = some (⟨0x00E00000, []⟩, []) ∧
    decode ⟨0x00E00000, []⟩ = .ok (.rdRom 0) ∧ Instr.rdRom 0 ≠ .machineStart ∧
    (∃ t, step (demo.offering ⟨0x7F000000, []⟩) = .next t) ∧ ∃ t, step (demo.offering ⟨0x02000000, []⟩) = .next t :=
  ⟨rfl, rfl, by decide, by decide, by decide, next_of_got (by decide), next_of_got (by decide)⟩

theorem witness_MachineStartNeedsTwoPages :
    (beforeStart (withRam 32767)).created = false ∧ (beforeStart (withRam 32767)).cfg.ramSize / 16384 < 2 ∧
    (beforeStart (withRam 0)).cfg.ramSize / 16384 < 2 ∧ (beforeStart (withRam 32768)).created = false ∧
    2 ≤ (beforeStart (withRam 32768)).cfg.ramSize / 16384 := by decide

theorem running_offering_legal : (running.offering ⟨0x01BFFF12, []⟩).Legal :=
  ⟨⟨by decide, rfl, rfl⟩, by decide, rfl, rfl, by decide, by decide, rfl⟩

theorem witness_StepKeepsLegal :
    (running.offering ⟨0x01BFFF12, []⟩).Legal ∧ ∃ t, step (running.offering ⟨0x01BFFF12, []⟩) = .next t :=
  ⟨running_offering_legal, next_of_got (by decide)⟩

/-- An image of `n` bytes. -/
theorem image_of_length (n : Nat) : ∃ image : List Byte, image.length = n :=
  ⟨List.replicate n 0x01, List.length_replicate⟩

theorem ramSize_withRam (n : Nat) : (withRam n).cfg.ramSize = n := rfl

/-- One byte more than fits. -/
theorem witness_LegalStatesHaveNoRunTimeError :
    ∃ image f, image.length = 32513 ∧ (withRam 32768).Legal ∧
      exec (.cartAttach image) (withRam 32768) = .fault f := by
  refine (image_of_length 32513).elim fun image hlen => ⟨image, .capacity image.length, hlen,
    ⟨⟨by decide, rfl, rfl⟩, by decide, rfl, rfl, by decide, by decide, rfl⟩, ?_⟩
  have htoo : imageTooLarge (withRam 32768).cfg image.length = true := by
    unfold imageTooLarge
    rw [ramSize_withRam, hlen]
    decide
  have hs : (withRam 32768).started = false := rfl
  have hc : (withRam 32768).cardPresent = false := rfl
  simp only [exec, execCartAttach, htoo, hs, hc, if_true, Bool.false_eq_true, if_false, raiseError]

/-- A legal state in each of the two cases of a read, at the address of the one exception. -/
theorem witness_EveryBusAccessCompletes :
    debugDemo.Legal ∧ debugDemo.hostIn = [] ∧ running.Legal ∧ running.hostIn ≠ [] :=
  ⟨debug_legal, rfl, running_legal, by decide⟩

theorem witness_FixedBankReadsReturnStoreByte :
    2 ≤ running.cfg.ramSize / 16384 ∧ running.ramByte 0x7FFF = 0x02 ∧ (0x3FFF : BitVec 14).toNat = 0x3FFF := by decide

theorem witness_Bank3ReadReturnsPageByte :
    running.bank3Page < running.cfg.ramSize / 16384 ∧ remainder.bank3Page < remainder.cfg.ramSize / 16384 := by decide

theorem witness_FixedBankWritesStoreOneByte :
    2 ≤ running.cfg.ramSize / 16384 ∧ Memory.wf running.ram = true ∧ running.ram ≠ [] := by decide

theorem witness_Bank3WriteStoresOneByte :
    running.bank3Page < running.cfg.ramSize / 16384 ∧ Memory.wf running.ram = true := by decide

theorem witness_UnclaimedReadsReturnOpenBus :
    Instr.rdUnmapped 0xC800 ∈ [Instr.rdPsgData, .rdDiag 1, .rdUnmapped 0xC800] := by decide

theorem witness_NoEffectWritesOnlyStart :
    Instr.wrRom 0x1FFF 7 ∈ [Instr.wrSelClr 7, .wrSelSet 7, .wrRom 0x1FFF 7, .wrUnmapped 0xDFFF 7] := by decide

theorem witness_RomReadReturnsImageByte : demo.cfg.rom[(1 : BitVec 13).toNat]? = some 0xAB := by decide

/-- Debug off at offset 0; debug on beside each intercepted offset. -/
theorem witness_UartAccessesForwardUnmodified :
    demo.cfg.uartDebugStdio = false ∧ debugDemo.cfg.uartDebugStdio = true ∧
    ((1 : BitVec 10) ≠ 0 ∧ (1 : BitVec 10) ≠ 5) ∧ ((4 : BitVec 10) ≠ 0 ∧ (4 : BitVec 10) ≠ 5) ∧
    ((6 : BitVec 10) ≠ 0 ∧ (6 : BitVec 10) ≠ 5) := by decide

theorem witness_DebugReceiveReturnsHostByte :
    debugDemo.cfg.uartDebugStdio = true ∧ debugDemo.hostIn = [] ∧
    (debugDemo.setHostIn [0x0D]).cfg.uartDebugStdio = true ∧ (debugDemo.setHostIn [0x0D]).hostIn = 0x0D :: [] := by decide

theorem witness_DebugLineStatusForcesDataReady : debugDemo.cfg.uartDebugStdio = true := rfl

/-- Both ends of the byte reported, and an odd page count. -/
theorem witness_Bank3ShowsTheSelectedPage :
    remainder.Legal ∧ (∃ t, exec (.piaPortaOut 0xFF) remainder = .next t) ∧
    (∃ t, exec (.piaPortaOut 0x00) remainder = .next t) := ⟨remainder_legal, ⟨_, rfl⟩, _, rfl⟩

theorem witness_BankWindowsAlias :
    demo.Legal ∧ demo.bank3Page = 0 ∧ running.Legal ∧ running.bank3Page = 1 := ⟨demo_legal, rfl, running_legal, rfl⟩

theorem witness_JoystickReadRearrangesSnapshot :
    demo.controllerSelect = true ∧ (demo.setSelect false).controllerSelect = false := by decide

/-- Each line unchanged through an event of another source, and through an access in which its source reports nothing. -/
theorem witness_LinesChangeByTheirSourceOnly :
    (∃ t, exec (.vdpIrqLevel true) demo = .next t) ∧ (∀ l, Instr.vdpIrqLevel true ≠ .svcNmiLevel l) ∧
    (∀ l, Instr.vdpIrqLevel true ≠ .piaFirqLevel l) ∧ Instr.vdpIrqLevel true ≠ .machineStart ∧
    (∃ t, exec (.rdVdp 1) demo = .next t) ∧ (∀ l, Instr.rdVdp 1 ≠ .vdpIrqLevel l) ∧ demo.env.vdpReply.callbacks = [] ∧
    (∃ t, exec (.rdPia 0) demo = .next t) ∧ firqReports demo.env.piaReply.callbacks = [] ∧
    (∃ t, exec (.kbdClock false) demo = .next t) ∧ demo.env.lineReply = [] :=
  ⟨⟨_, rfl⟩, by decide, by decide, by decide, ⟨_, rfl⟩, by decide, rfl, ⟨_, rfl⟩, rfl, ⟨_, rfl⟩, rfl⟩

theorem witness_ClockEventStoresForwardsAndYields : demo.cfg.kbdPresent = true ∧ demo.kbdBlocked = false := by decide

theorem witness_KeyboardEventsNeedAdmission :
    Instr.kbdData true ∈ [Instr.kbdClock true, .kbdData true] ∧
    (demo.cfg.kbdPresent = true ∧ demo.kbdBlocked = false) ∧ noKeyboard.cfg.kbdPresent = false ∧
    (blocked.cfg.kbdPresent = true ∧ blocked.kbdBlocked = true) := by decide

theorem witness_DataEventStoresLevel : running.cfg.kbdPresent = true ∧ running.kbdBlocked = false := by decide

/-- An edge and other agents' events; an edge, then what may follow it before the boundary. -/
theorem witness_AtMostOneEdgeBetweenBoundaries :
    (demo.cfg.kbdSliceGuard = true ∧ demo.cfg.kbdPresent = true ∧
      ∃ t, execAll [.kbdClock true, .kbdClock false, .rdSelClr, .vdpIrqLevel true] demo = some t) ∧
    (∀ i ∈ [Instr.kbdClock true, .kbdClock false, .rdSelClr, .vdpIrqLevel true], i ≠ .cpuBoundary ∧ i ≠ .machineStart) ∧
    demo.keyboardClockPrev = true ∧
    (∃ t u, exec (.kbdClock false) demo = .next t ∧ execAll [.rdSelClr, .piaPortbIn] t = some u) ∧
    (∀ i ∈ [Instr.rdSelClr, .piaPortbIn], i ≠ .cpuBoundary ∧ i ≠ .machineStart) :=
  ⟨⟨rfl, rfl, _, rfl⟩, by decide, rfl, ⟨_, _, rfl, rfl⟩, by decide⟩

/-- Both sides of the port-B byte's keyboard bit: a fitted decoder and an absent one, each in a legal state. -/
theorem witness_PortBQueryReturnsBothBits : noKeyboard.Legal ∧ noKeyboard.cfg.kbdPresent = false := ⟨noKeyboard_legal, rfl⟩

theorem witness_ClockSequenceYieldsPerTransition :
    unguarded.cfg.kbdPresent = true ∧ unguarded.cfg.kbdSliceGuard = false ∧ unguarded.kbdBlocked = false := by decide

/-- The largest image that fits, and the empty one. -/
theorem witness_AttachCopiesImageAndSetsFlag :
    (withRam 32768).started = false ∧ (withRam 32768).cardPresent = false ∧ Memory.wf (withRam 32768).ram = true ∧
    (∃ image : List Byte, image.length = 32512 ∧ 0x0100 + image.length ≤ (withRam 32768).cfg.ramSize) ∧
    0x0100 + ([] : List Byte).length ≤ (withRam 32768).cfg.ramSize := by
  refine (image_of_length 32512).elim fun image hlen => ?_
  exact ⟨rfl, rfl, rfl, ⟨image, hlen, by rw [hlen, ramSize_withRam]⟩, by decide⟩

theorem witness_AttachIsRejectedLateTwiceOrTooLarge :
    ((withRam 32768).started = false ∧ (withRam 32768).cardPresent = false ∧
      ∃ image : List Byte, image.length = 32513 ∧ (withRam 32768).cfg.ramSize < 0x0100 + image.length) ∧
    blocked.started = true ∧ blocked.cardPresent = false ∧
    (demo.setCardPresent true).started = false ∧ (demo.setCardPresent true).cardPresent = true := by
  refine (image_of_length 32513).elim fun image hlen => ?_
  exact ⟨⟨rfl, rfl, image, hlen, by rw [hlen, ramSize_withRam]; decide⟩, rfl, rfl, rfl, rfl⟩

/-- For the rules over all operations: a CPU event, the card, the two select reads, and a page kept by other events. -/
theorem witness_RunBeginsAtCpuEventsOnly :
    (∃ t, exec (.rdRom 0) demo = .next t) ∧ isCpuEvent (.rdRom 0) = true ∧
    (∃ t, exec (.svcNmiLevel true) demo = .next t) ∧ isCpuEvent (.svcNmiLevel true) = false :=
  ⟨⟨_, rfl⟩, rfl, ⟨_, rfl⟩, rfl⟩

theorem witness_CardFlagOnlyByAttach :
    (∃ t, exec (.cartAttach [0x01]) demo = .next t) ∧ Instr.cartAttach [0x01] ≠ .machineStart ∧
    (∃ t, exec .cpuBoundary running = .next t) ∧ Instr.cpuBoundary ≠ .machineStart :=
  ⟨⟨_, rfl⟩, by decide, ⟨_, rfl⟩, by decide⟩

theorem witness_FlipFlopOnlyBySelectReads :
    (∃ t, exec .rdSelClr demo = .next t) ∧ (∃ t, exec .rdSelSet demo = .next t) ∧
    (∃ t, exec (.wrSelClr 0) demo = .next t) ∧ Instr.wrSelClr 0 ≠ .rdSelClr ∧ Instr.wrSelClr 0 ≠ .rdSelSet :=
  ⟨⟨_, rfl⟩, ⟨_, rfl⟩, ⟨_, rfl⟩, by decide, by decide⟩

theorem witness_PageOnlyByPortAReports :
    (∃ t, exec (.rdPia 0) demo = .next t) ∧ (∀ v, Instr.rdPia 0 ≠ .piaPortaOut v) ∧
    portAReports demo.env.piaReply.callbacks = [] ∧ (∃ t, exec (.wrBank3 0 1) demo = .next t) :=
  ⟨⟨_, rfl⟩, by decide, rfl, next_of_got (by decide)⟩

theorem witness_KeyboardLinesOnlyByTheirEvents :
    (∃ t, exec (.kbdClock false) demo = .next t) ∧ (∀ l, Instr.kbdClock false ≠ .kbdData l) ∧
    (∃ t, exec (.kbdData false) demo = .next t) ∧ (∀ l, Instr.kbdData false ≠ .kbdClock l) :=
  ⟨⟨_, rfl⟩, by decide, ⟨_, rfl⟩, by decide⟩

theorem witness_StreamsOnlyGrow :
    (∃ t, exec (.wrDiag 0 0xAB) running = .next t) ∧ Instr.wrDiag 0 0xAB ≠ .machineStart := ⟨⟨_, rfl⟩, by decide⟩

theorem witness_ParametersNeverChange :
    (∃ t, exec (.wrRom 0 0x12) demo = .next t) ∧ ∃ t, exec .machineStart (beforeStart demo) = .next t :=
  ⟨⟨_, rfl⟩, _, rfl⟩

/-- An offset beside the one stored to, and the last byte of the remainder. -/
theorem witness_StoreByteOnlyByItsWindowWrite :
    remainder.Legal ∧ (∃ t, exec (.wrBank3 0x3FFF 1) remainder = .next t) ∧
    isInitialisation (.wrBank3 0x3FFF 1) = false ∧ storedOffset (.wrBank3 0x3FFF 1) remainder = some 0x47FFF ∧
    remainder.cfg.numBanks * 16384 = 0x48000 ∧ remainder.cfg.numBanks * 16384 ≤ 0x49FFF :=
  ⟨remainder_legal, next_of_got (by decide), rfl, rfl, rfl, by decide⟩

/-- Written through bank2, another byte written meanwhile, then read through bank3 at page 1. -/
theorem witness_WindowReadReturnsLatestWrite :
    ∃ s₁ s₂, running.Legal ∧ exec (windowWrite .bank2 0x0123 0x22) running = .next s₁ ∧
      leavesAlone (storeOffset .bank2 0x0123 running) [.wrBank1 0x0123 0x11, .piaPortaOut 3] s₁ ∧
      execAll [.wrBank1 0x0123 0x11, .piaPortaOut 3] s₁ = some s₂ ∧
      storeOffset .bank3 0x0123 s₂ = storeOffset .bank2 0x0123 running := by
  refine ⟨_, _, running_legal, rfl, ⟨rfl, by decide, ?_⟩, rfl, rfl⟩
  intro t _
  exact ⟨rfl, nofun, fun _ _ => trivial⟩

end Sys2Proof.Machine.Tests
end

section
/-! The step and the decoded instruction (00_scope.md R21, 20_memory.md R65, 70_reset_and_hazards.md R330). -/

namespace Sys2Proof.Machine

/-- The admission of R330 adds no wait: a refusal before the machine start is not one of the waits of R304. -/
theorem isWait_processEvent_of_exec {i : Instr} {s : State} (h : isWait (exec i s) = false) :
    isWait (processEvent i s) = false := by
  rcases processEvent_spec i s with ⟨_, admitted⟩ | ⟨_, _, refused⟩
  · rw [admitted]
    exact h
  · rw [refused]
    rfl

/-- An event that does not wait is picked before the ones behind it, unless its agent is already waiting. -/
theorem pickEvent_cons_of_ready {s : State} {waiting : List Agent} {t : Transaction} {rest : List Transaction}
    {i : Instr} (hd : decode t = .ok i) (ha : agentOf i ∉ waiting) (hw : isWait (processEvent i s) = false) :
    pickEvent s waiting (t :: rest) = some (t, rest) := by
  simp [pickEvent, hd, ha, hw]

/-- What is picked from the pending events is the next event. -/
theorem nextEvent_of_pickEvent {s : State} {picked : Transaction × List Transaction}
    (h : pickEvent s [] s.env.inbox = some picked) : nextEvent s = some picked := by
  unfold nextEvent
  cases hi : s.env.inbox with
  | nil =>
    rw [hi] at h
    cases h
  | cons t ts =>
    rw [hi] at h
    simp only [h]

/-- An admitted next event's step is its meaning, in the state where only that event is no longer pending. -/
theorem step_eq_exec_taking {s : State} {t : Transaction} {rest : List Transaction} {i : Instr}
    (hn : nextEvent s = some (t, rest)) (hd : decode t = .ok i) (ha : s.created = true ∨ i = .machineStart) :
    step s = exec i (s.taking rest) := by
  rw [step_of_nextEvent hn hd]
  exact processEvent_admitted ha

/-- Settles O7: an admitted next event is processed by its meaning, and a first event that does not wait is picked. -/
theorem stepRunsTheDecodedInstr : Obligations.StepRunsTheDecodedInstr := by
  refine ⟨fun s t rest i hn hd _ ha => step_eq_exec_taking hn hd ha, fun s t rest i hi hd hw => ?_⟩
  have ready := isWait_processEvent_of_exec hw
  apply nextEvent_of_pickEvent
  rw [hi]
  exact pickEvent_cons_of_ready hd List.not_mem_nil ready

end Sys2Proof.Machine
end

section
/-! What an effect leaves in each field, field by field: the proofs about all operations cite these after
`exec_effect`, and do not open `Effect.after` again. -/

namespace Sys2Proof.Machine

section
variable (e : Effect) (i : Instr) (s : State)

@[simp] theorem Effect.after_cfg : (e.after i s).cfg = s.cfg := rfl
@[simp] theorem Effect.after_bank3Page : (e.after i s).bank3Page = pageAfter s.cfg s.bank3Page e.pages := rfl
@[simp] theorem Effect.after_ram : (e.after i s).ram = e.ram := rfl
@[simp] theorem Effect.after_started : (e.after i s).started = (s.started || isCpuEvent i) := rfl
@[simp] theorem Effect.after_diag : (e.after i s).diag = s.diag ++ e.dg := rfl
@[simp] theorem Effect.after_serialOut : (e.after i s).serialOut = s.serialOut ++ e.ser := rfl
@[simp] theorem Effect.after_hist : (e.after i s).hist = s.hist ++ e.recs := rfl
@[simp] theorem Effect.after_answers : (e.after i s).answers = s.answers ++ e.ans := rfl
@[simp] theorem Effect.after_rdSelClr_controllerSelect : (e.after .rdSelClr s).controllerSelect = false := rfl
@[simp] theorem Effect.after_rdSelSet_controllerSelect : (e.after .rdSelSet s).controllerSelect = true := rfl

end

section
variable {e : Effect} {i : Instr} {s : State}

theorem Effect.after_cardPresent :
    (e.after i s).cardPresent = true ↔ s.cardPresent = true ∨ ∃ image, i = .cartAttach image := by
  dsimp only [Effect.after]
  rw [Bool.or_eq_true]
  refine or_congr_right ?_
  split
  case h_1 image => simp
  case h_2 other => simpa using other

theorem Effect.after_controllerSelect_of_ne (hclr : i ≠ .rdSelClr) (hset : i ≠ .rdSelSet) :
    (e.after i s).controllerSelect = s.controllerSelect := by
  dsimp only [Effect.after]
  split
  · exact absurd rfl hclr
  · exact absurd rfl hset
  · rfl

theorem Effect.after_keyboardDataLine_of_ne (h : ∀ l, i ≠ .kbdData l) :
    (e.after i s).keyboardDataLine = s.keyboardDataLine := by
  dsimp only [Effect.after]
  split
  · exact absurd rfl (h _)
  · rfl

theorem Effect.after_keyboardClockPrev_of_ne (h : ∀ l, i ≠ .kbdClock l) :
    (e.after i s).keyboardClockPrev = s.keyboardClockPrev := by
  dsimp only [Effect.after]
  split
  · exact absurd rfl (h _)
  · rfl

/-- A keyboard is blocked because it was before, or by a clock event under the guard (44_keyboard.md R219). -/
theorem Effect.blocked_of_after (h : (e.after i s).kbdBlocked = true) :
    s.kbdBlocked = true ∨ (∃ l, i = .kbdClock l) ∧ s.cfg.kbdSliceGuard = true := by
  dsimp only [Effect.after] at h
  split at h
  · cases h
  · next l =>
    rw [Bool.and_eq_true] at h
    obtain ⟨-, guarded⟩ := h
    exact .inr ⟨⟨l, rfl⟩, guarded⟩
  · exact .inl h

end

end Sys2Proof.Machine
end

section
/-! The invariant of 10_state.md R51: machine start establishes it, every operation keeps it, and so does every step. -/

namespace Sys2Proof.Machine

/-! ### The parts of the invariant -/

/-- Port-A reports leave the page in range, whatever they report (10_state.md R35, 41_banked_memory.md R163). -/
theorem pageAfter_lt {c : Config} {page : Nat} (hpage : page < c.numBanks) (reports : List Byte) :
    pageAfter c page reports < c.numBanks := by
  induction reports generalizing page with
  | nil => exact hpage
  | cons v vs ih => exact ih (Nat.mod_lt _ (Nat.zero_lt_of_lt hpage))

/-- Whole records after whole records are whole records. -/
theorem wholeRecords_append {cs ds : List Char} (hcs : wholeRecords cs = true) (hds : wholeRecords ds = true) :
    wholeRecords (cs ++ ds) = true := by
  induction cs using wholeRecords.induct with
  | case1 => exact hds
  | case2 a b c cs ih =>
    simp only [wholeRecords, Bool.and_eq_true] at hcs
    obtain ⟨first, rest⟩ := hcs
    simp only [List.cons_append, wholeRecords, Bool.and_eq_true]
    exact ⟨first, ih rest⟩
  | case3 | case4 => cases hcs

theorem Effect.Allowed.wholeRecords_dg {e : Effect} {i : Instr} {s : State} (he : e.Allowed i s) :
    wholeRecords e.dg = true := by
  rcases he.dg with nothing | ⟨v, record⟩
  · rw [nothing]
    rfl
  · rw [record]
    exact wholeRecords_diagRecord v

/-- The store keeps its canonical form: it is as before, one byte written, or an image loaded. -/
theorem Effect.Allowed.wf_ram {e : Effect} {i : Instr} {s : State} (he : e.Allowed i s)
    (hform : Memory.wf s.ram = true) : Memory.wf e.ram = true := by
  rcases he.ram with ⟨off, v, _, _, written⟩ | ⟨image, _, _, loaded⟩ | same
  · rw [written]
    exact Memory.write_wf hform
  · rw [loaded]
    exact Memory.load_wf hform
  · rw [same]
    exact hform

/-- No operation stores outside the store (10_state.md R37). -/
theorem Effect.Allowed.within_ram {e : Effect} {i : Instr} {s : State} (he : e.Allowed i s)
    (hwithin : Memory.within s.cfg.ramSize s.ram = true) : Memory.within s.cfg.ramSize e.ram = true := by
  rcases he.ram with ⟨off, v, _, inside, written⟩ | ⟨image, _, fits, loaded⟩ | same
  · rw [written]
    exact Memory.write_within inside hwithin
  · rw [loaded]
    exact Memory.load_within fits hwithin
  · rw [same]
    exact hwithin

/-! ### Every effect keeps the invariant -/

/-- A keyboard event is admitted only with a decoder fitted (44_keyboard.md R226), so without one neither stored level
moves, and a newly blocked keyboard has one. -/
theorem Effect.after_legal {e : Effect} {i : Instr} {s : State} (hs : s.Legal) (he : e.Allowed i s) :
    (e.after i s).Legal where
  config := hs.config
  page := by
    rw [Effect.after_bank3Page, Effect.after_cfg]
    exact pageAfter_lt hs.page e.pages
  ramForm := by
    rw [Effect.after_ram]
    exact he.wf_ram hs.ramForm
  ramWithin := by
    rw [Effect.after_ram, Effect.after_cfg]
    exact he.within_ram hs.ramWithin
  blocked := by
    intro hb
    rcases Effect.blocked_of_after hb with before | ⟨clock, guarded⟩
    · exact hs.blocked before
    · obtain ⟨fitted, -⟩ := he.admitted (.inl clock)
      exact ⟨guarded, fitted⟩
  idle := by
    intro absent
    have notAdmitted : ¬ ((∃ l, i = .kbdClock l) ∨ ∃ l, i = .kbdData l) := by
      intro event
      obtain ⟨fitted, -⟩ := he.admitted event
      exact Bool.false_ne_true (absent.symm.trans fitted)
    obtain ⟨notClock, notData⟩ := not_or.mp notAdmitted
    rw [Effect.after_keyboardDataLine_of_ne (not_exists.mp notData),
      Effect.after_keyboardClockPrev_of_ne (not_exists.mp notClock)]
    exact hs.idle absent
  records := by
    rw [Effect.after_diag]
    exact wholeRecords_append hs.records he.wholeRecords_dg

/-! ### Machine start, and the reset state -/

/-- Under legal parameters the machine-start values are legal (70_reset_and_hazards.md R331). -/
theorem freshState_legal {c : Config} (hc : LegalConfig c) (env : Env) : (freshState c env).Legal where
  config := hc
  page := Nat.mod_lt _ (Nat.zero_lt_of_lt hc.pages)
  ramForm := hc.ramInitForm
  ramWithin := hc.ramInitWithin
  blocked := nofun
  idle := fun _ => ⟨rfl, rfl⟩
  records := rfl

theorem standard_legalConfig : LegalConfig Config.standard := ⟨by decide, rfl, rfl⟩

/-- Settles O14: the reset state is the machine-start state under the standard parameters, which are legal. -/
theorem resetIsLegal : Obligations.ResetIsLegal :=
  freshState_legal standard_legalConfig Env.silent

/-! ### Operations and steps -/

/-- Every operation keeps a legal state legal. -/
theorem exec_keeps_legal {i : Instr} {s t : State} (hs : s.Legal) (h : exec i s = .next t) : t.Legal := by
  by_cases hi : i = .machineStart
  · subst hi
    obtain ⟨-, -, rfl⟩ := machineStart_next h
    exact freshState_legal hs.config s.env
  · obtain ⟨e, rfl, he⟩ := exec_effect h hi
    exact Effect.after_legal hs he

/-- The invariant does not speak of what is pending. -/
theorem State.Legal.setEnv {s : State} (hs : s.Legal) (env : Env) : (s.setEnv env).Legal :=
  ⟨hs.config, hs.page, hs.ramForm, hs.ramWithin, hs.blocked, hs.idle, hs.records⟩

/-- Settles O15: a step takes the event from the pending ones and processes it by its meaning. -/
theorem stepKeepsLegal : Obligations.StepKeepsLegal := by
  intro s t hs h
  obtain ⟨_, rest, i, _, _, _, processed⟩ := step_next h
  exact exec_keeps_legal (hs.setEnv (s.env.setInbox rest)) processed

end Sys2Proof.Machine
end

section
/-! The rules over all operations (10_state.md R31 to R34, R39 to R42, R50), each read off the operation's effect. -/

namespace Sys2Proof.Machine

/-- Settles O51: an effect sets `started` for a CPU event and for no other. -/
theorem runBeginsAtCpuEventsOnly : Obligations.RunBeginsAtCpuEventsOnly := by
  intro i s t h hi
  obtain ⟨e, rfl, -⟩ := exec_effect h hi
  exact Effect.after_started e i s

/-- Settles O52: an effect raises the card flag for an attach and never clears it. -/
theorem cardFlagOnlyByAttach : Obligations.CardFlagOnlyByAttach := by
  intro i s t h hi
  obtain ⟨e, rfl, -⟩ := exec_effect h hi
  exact Effect.after_cardPresent

/-- Settles O53, by the two select reads and every other operation. -/
theorem flipFlopOnlyBySelectReads : Obligations.FlipFlopOnlyBySelectReads := by
  intro i s t h hi
  obtain ⟨e, rfl, -⟩ := exec_effect h hi
  refine ⟨?clear, ?set, Effect.after_controllerSelect_of_ne⟩
  case clear =>
    rintro rfl
    exact Effect.after_rdSelClr_controllerSelect e s
  case set =>
    rintro rfl
    exact Effect.after_rdSelSet_controllerSelect e s

/-- Settles O55: an effect stores a keyboard level for that level's own event only. -/
theorem keyboardLinesOnlyByTheirEvents : Obligations.KeyboardLinesOnlyByTheirEvents := by
  intro i s t h hi
  obtain ⟨e, rfl, -⟩ := exec_effect h hi
  exact ⟨Effect.after_keyboardDataLine_of_ne, Effect.after_keyboardClockPrev_of_ne⟩

/-- Settles O56: an effect only appends to the streams, the history and the bytes returned. -/
theorem streamsOnlyGrow : Obligations.StreamsOnlyGrow := by
  intro i s t h hi
  obtain ⟨e, rfl, -⟩ := exec_effect h hi
  rw [Effect.after_diag, Effect.after_serialOut, Effect.after_hist, Effect.after_answers]
  exact ⟨List.prefix_append _ _, List.prefix_append _ _, List.prefix_append _ _, List.prefix_append _ _⟩

/-- Settles O57: an effect names no parameter, and machine start runs under the parameters it finds. -/
theorem parametersNeverChange : Obligations.ParametersNeverChange := by
  intro i s t h
  by_cases hi : i = .machineStart
  · subst hi
    obtain ⟨-, -, rfl⟩ := machineStart_next h
    rfl
  · obtain ⟨e, rfl, -⟩ := exec_effect h hi
    exact Effect.after_cfg e i s

end Sys2Proof.Machine
end

section
/-! Window accesses in a legal state (41_banked_memory.md R161, 20_memory.md R72): every one completes, a read answers
with the byte at its store offset and a write stores it there. Which window reaches an offset does not matter. -/

namespace Sys2Proof.Machine

/-! ### The operations of the windows -/

theorem exec_windowRead_eq_bankRead (b : Bank) (k : BitVec 14) (s : State) :
    exec (windowRead b k) s = bankRead b k s := by
  cases b <;> rfl

theorem exec_windowWrite_eq_bankWrite (b : Bank) (k : BitVec 14) (v : Byte) (s : State) :
    exec (windowWrite b k v) s = bankWrite b k v s := by
  cases b <;> rfl

/-- The operations that store to an offset are the window writes, each to the offset its window and page give. -/
theorem storedOffset_eq_some {i : Instr} {s : State} {a : Nat} :
    storedOffset i s = some a ↔ ∃ w k v, i = windowWrite w k v ∧ storeOffset w k s = a := by
  constructor
  · intro h
    unfold storedOffset at h
    split at h
    · next k v => exact ⟨.bank1, k, v, rfl, Option.some.inj h⟩
    · next k v => exact ⟨.bank2, k, v, rfl, Option.some.inj h⟩
    · next k v => exact ⟨.bank3, k, v, rfl, Option.some.inj h⟩
    · cases h
  · rintro ⟨w, k, v, rfl, rfl⟩
    cases w <;> rfl

/-! ### The offset a window reaches -/

/-- Of the state, the offset depends on the page alone. -/
theorem storeOffset_congr {s t : State} (b : Bank) (k : BitVec 14) (h : t.bank3Page = s.bank3Page) :
    storeOffset b k t = storeOffset b k s := by
  cases b <;> simp only [storeOffset, bankBase, h]

/-- The offset of a fixed window does not depend on the state (20_memory.md R74). -/
theorem storeOffset_of_ne_bank3 {b : Bank} (hb : b ≠ .bank3) (k : BitVec 14) (s t : State) :
    storeOffset b k t = storeOffset b k s := by
  cases b
  case bank1 | bank2 => rfl
  case bank3 => exact absurd rfl hb

theorem storeOffset_bank3_of_page_zero {s : State} (k : BitVec 14) (h : s.bank3Page = 0) :
    storeOffset .bank3 k s = storeOffset .bank1 k s := by
  simp only [storeOffset, bankBase, h, Nat.zero_mul]

theorem storeOffset_bank3_of_page_one {s : State} (k : BitVec 14) (h : s.bank3Page = 1) :
    storeOffset .bank3 k s = storeOffset .bank2 k s := by
  simp only [storeOffset, bankBase, h, Config.pageSize, Nat.one_mul]

/-! ### The accesses -/

section
variable {s : State}

/-- In a legal state no window reaches outside the store (20_memory.md R72). -/
theorem State.Legal.storeOffset_lt_ramSize (hs : s.Legal) (b : Bank) (k : BitVec 14) :
    storeOffset b k s < s.cfg.ramSize :=
  Nat.lt_of_lt_of_le (storeOffset_lt b k hs) (numBanks_le s.cfg)

theorem exec_windowRead (hs : s.Legal) (b : Bank) (k : BitVec 14) :
    exec (windowRead b k) s = .next (s.markStarted.answer (.cpu (s.ramByte (storeOffset b k s)))) := by
  rw [exec_windowRead_eq_bankRead]
  rcases bankRead_spec b k s with ⟨-, completes⟩ | ⟨outside, -⟩
  · exact completes
  · exact absurd (hs.storeOffset_lt_ramSize b k) (Nat.not_lt.mpr outside)

theorem exec_windowWrite (hs : s.Legal) (b : Bank) (k : BitVec 14) (v : Byte) :
    exec (windowWrite b k v) s = .next (s.markStarted.setRam (Memory.write s.ram (storeOffset b k s) v)) := by
  rw [exec_windowWrite_eq_bankWrite]
  rcases bankWrite_spec b k v s with ⟨-, completes⟩ | ⟨outside, -⟩
  · exact completes
  · exact absurd (hs.storeOffset_lt_ramSize b k) (Nat.not_lt.mpr outside)

/-- What a completed window write leaves: its byte at its offset, the page and the bytes returned as before. -/
theorem windowWrite_next {t : State} {b : Bank} {k : BitVec 14} {v : Byte} (hs : s.Legal)
    (h : exec (windowWrite b k v) s = .next t) :
    t.ramByte (storeOffset b k s) = v ∧ t.bank3Page = s.bank3Page ∧ t.answers = s.answers := by
  rw [exec_windowWrite hs] at h
  obtain rfl := Host.Outcome.next.inj h
  refine ⟨?_, rfl, rfl⟩
  rw [State.ramByte, State.setRam_ram, Memory.read_write hs.ramForm, if_pos rfl]

end

end Sys2Proof.Machine
end

section
/-! The bytes of the store over operations and sequences of operations (20_memory.md R75, 10_state.md R37). -/

namespace Sys2Proof.Machine

section
variable {i : Instr} {s t : State} {a : Nat}

/-- An effect changes a byte of a canonical store only at the offset stored to, or by an attach. -/
theorem Effect.Allowed.read_ram {e : Effect} (he : e.Allowed i s) (hform : Memory.wf s.ram = true)
    (hattach : ∀ image, i ≠ .cartAttach image) (ha : storedOffset i s ≠ some a) :
    Memory.read e.ram a = Memory.read s.ram a := by
  rcases he.ram with ⟨off, v, stores, _, written⟩ | ⟨image, attach, _⟩ | same
  · have other : a ≠ off := fun eq => ha (eq ▸ stores)
    rw [written, Memory.read_write hform, if_neg other]
  · exact absurd attach (hattach image)
  · rw [same]

/-- An operation other than the initialisations leaves every byte as it was but the one it stores. -/
theorem exec_keeps_ramByte (hs : s.Legal) (h : exec i s = .next t) (hi : isInitialisation i = false)
    (ha : storedOffset i s ≠ some a) : t.ramByte a = s.ramByte a := by
  have notStart : i ≠ .machineStart := by
    rintro rfl
    cases hi
  have notAttach : ∀ image, i ≠ .cartAttach image := by
    rintro image rfl
    cases hi
  obtain ⟨e, rfl, he⟩ := exec_effect h notStart
  exact he.read_ram hs.ramForm notAttach ha

/-- No operation stores beyond the last whole page (10_state.md R37). -/
theorem storedOffset_lt (hs : s.Legal) (h : storedOffset i s = some a) : a < s.cfg.numBanks * Config.pageSize := by
  obtain ⟨w, k, v, rfl, rfl⟩ := storedOffset_eq_some.mp h
  exact storeOffset_lt w k hs

end

/-- Settles O58: the byte stored is the only one that changes, and its offset lies in a whole page. -/
theorem storeByteOnlyByItsWindowWrite : Obligations.StoreByteOnlyByItsWindowWrite := by
  intro i s t a hs h hi
  refine ⟨exec_keeps_ramByte hs h hi, fun beyond => exec_keeps_ramByte hs h hi fun stores => ?_⟩
  exact absurd (storedOffset_lt hs stores) (Nat.not_lt.mpr beyond)

/-! ### Sequences of operations -/

theorem execAll_cons_eq_some {i : Instr} {is : List Instr} {s u : State} :
    execAll (i :: is) s = some u ↔ ∃ t, exec i s = .next t ∧ execAll is t = some u := by
  rw [execAll]
  cases exec i s <;> simp

theorem execAll_keeps_legal {is : List Instr} {s t : State} (hs : s.Legal) (h : execAll is s = some t) : t.Legal := by
  induction is generalizing s with
  | nil => exact Option.some.inj h ▸ hs
  | cons i is ih =>
    obtain ⟨next, first, rest⟩ := execAll_cons_eq_some.mp h
    exact ih (exec_keeps_legal hs first) rest

theorem execAll_keeps_ramByte {is : List Instr} {s t : State} {a : Nat} (hs : s.Legal) (hleaves : leavesAlone a is s)
    (h : execAll is s = some t) : t.ramByte a = s.ramByte a := by
  induction is generalizing s with
  | nil => rw [Option.some.inj h]
  | cons i is ih =>
    obtain ⟨next, first, rest⟩ := execAll_cons_eq_some.mp h
    obtain ⟨notInit, elsewhere, leavesRest⟩ := hleaves
    calc t.ramByte a
      _ = next.ramByte a := ih (exec_keeps_legal hs first) (leavesRest next first) rest
      _ = s.ramByte a := exec_keeps_ramByte hs first notInit elsewhere

/-- Settles O59: the byte written stays through the sequence, and a read of the offset answers with it. -/
theorem windowReadReturnsLatestWrite : Obligations.WindowReadReturnsLatestWrite := by
  intro w r k j v is s s₁ s₂ hs hwrite hleaves hrun hoff
  have legalWritten := exec_keeps_legal hs hwrite
  obtain ⟨written, -, -⟩ := windowWrite_next hs hwrite
  have kept : s₂.ramByte (storeOffset r j s₂) = v := by
    rw [hoff, execAll_keeps_ramByte legalWritten hleaves hrun, written]
  refine ⟨_, exec_windowRead (execAll_keeps_legal legalWritten hrun) r j, ?_⟩
  rw [kept]
  rfl

/-! ### Aliases -/

/-- A write through one window is read through any window that reaches the same offset (20_memory.md R74). -/
theorem windowRead_after_windowWrite {s : State} {w r : Bank} {k j : BitVec 14} (hs : s.Legal)
    (halias : storeOffset r j s = storeOffset w k s) (v : Byte) :
    ∃ t u, exec (windowWrite w k v) s = .next t ∧ exec (windowRead r j) t = .next u ∧
      u.answers = s.answers ++ [.cpu v] := by
  obtain ⟨t, hwrite⟩ : ∃ t, exec (windowWrite w k v) s = .next t := ⟨_, exec_windowWrite hs w k v⟩
  obtain ⟨-, samePage, sameAnswers⟩ := windowWrite_next hs hwrite
  have sameOffset := (storeOffset_congr r j samePage).trans halias
  obtain ⟨u, hread, answered⟩ :=
    windowReadReturnsLatestWrite w r k j v [] s t t hs hwrite trivial rfl sameOffset
  exact ⟨t, u, hwrite, hread, answered.trans (by rw [sameAnswers])⟩

/-- A bank-3 selection leaves what a fixed window returns as it was (20_memory.md R74). -/
theorem fixedWindowRead_after_select {s : State} {b : Bank} (hs : s.Legal) (hb : b ≠ .bank3) (k : BitVec 14)
    (v : Byte) :
    ∃ u u', exec (windowRead b k) s = .next u ∧ exec (windowRead b k) (s.selectBank3 v) = .next u' ∧
      u'.answers = u.answers := by
  have legalSelected : (s.selectBank3 v).Legal := exec_keeps_legal (i := .piaPortaOut v) hs rfl
  refine ⟨_, _, exec_windowRead hs b k, exec_windowRead legalSelected b k, ?_⟩
  rw [storeOffset_of_ne_bank3 hb k s (s.selectBank3 v)]
  rfl

/-- Settles O36: the aliases reach the same offset at their page, and a fixed window's offset ignores the page. -/
theorem bankWindowsAlias : Obligations.BankWindowsAlias := by
  intro s k v hs
  refine ⟨fun page0 => ?zero, fun page1 => ?one, s.selectBank3 v, rfl, ?fixed⟩
  case zero =>
    have alias0 := storeOffset_bank3_of_page_zero k page0
    exact ⟨windowRead_after_windowWrite (w := .bank3) (r := .bank1) hs alias0.symm v,
      windowRead_after_windowWrite (w := .bank1) (r := .bank3) hs alias0 v⟩
  case one =>
    have alias1 := storeOffset_bank3_of_page_one k page1
    exact ⟨windowRead_after_windowWrite (w := .bank3) (r := .bank2) hs alias1.symm v,
      windowRead_after_windowWrite (w := .bank2) (r := .bank3) hs alias1 v⟩
  case fixed =>
    exact ⟨fixedWindowRead_after_select (b := .bank1) hs nofun k v,
      fixedWindowRead_after_select (b := .bank2) hs nofun k v⟩

end Sys2Proof.Machine
end

section
/-! The address decode (30_encoding.md R96, R97; 20_memory.md R69): the addresses of a row are an inclusive range, and
the region of an address is read off the ranges of the map. -/

namespace Sys2Proof

open Machine

/-! ### The range of a row -/

/-- Under a mask of high bits an address keeps its multiple of `2 ^ n`. -/
theorem toNat_and_highMask (a : Addr) (n : Nat) :
    (a &&& (BitVec.allOnes 16 <<< n)).toNat = a.toNat / 2 ^ n * 2 ^ n := by
  have fits : a.toNat / 2 ^ n * 2 ^ n < 2 ^ 16 := (Nat.div_mul_le_self _ _).trans_lt a.isLt
  rw [← BitVec.shiftLeft_ushiftRight, BitVec.toNat_shiftLeft, BitVec.toNat_ushiftRight, Nat.shiftRight_eq_div_pow,
    Nat.shiftLeft_eq, Nat.mod_eq_of_lt fits]

theorem toNat_not_highMask : ∀ n ≤ 16, (~~~(BitVec.allOnes 16 <<< n)).toNat = 2 ^ n - 1 := by decide

/-- The last address of a row: its pattern with every bit set that its mask leaves free. -/
def MapRow.last (r : MapRow) : Nat := r.pattern.toNat + (~~~r.mask).toNat

/-- A row that compares high bits only claims one inclusive range. -/
theorem MapRow.claims_iff_of_highMask {r : MapRow} {n : Nat} (hn : n ≤ 16) (hmask : r.mask = BitVec.allOnes 16 <<< n)
    (hpattern : r.pattern &&& r.mask = r.pattern) (a : Addr) :
    r.claims a = true ↔ r.pattern.toNat ≤ a.toNat ∧ a.toNat ≤ r.last := by
  have multiple : r.pattern.toNat = r.pattern.toNat / 2 ^ n * 2 ^ n := by
    rw [← toNat_and_highMask, ← hmask, hpattern]
  have hpos : 0 < 2 ^ n := Nat.two_pow_pos n
  rw [claims, beq_iff_eq, ← BitVec.toNat_inj, hmask, toNat_and_highMask, last, hmask, toNat_not_highMask n hn,
    multiple, Nat.mul_left_inj hpos.ne', Nat.div_eq_iff hpos]
  omega

theorem busMap_highMask : ∀ r ∈ busMap,
    (∃ n ≤ 16, r.mask = BitVec.allOnes 16 <<< n) ∧ r.pattern &&& r.mask = r.pattern := by decide

theorem busMap_claims_iff {r : MapRow} (hr : r ∈ busMap) (a : Addr) :
    r.claims a = true ↔ r.pattern.toNat ≤ a.toNat ∧ a.toNat ≤ r.last := by
  obtain ⟨⟨n, hn, hmask⟩, hpattern⟩ := busMap_highMask r hr
  exact MapRow.claims_iff_of_highMask hn hmask hpattern a

/-! ### The rows of the map against each other -/

theorem busMap_ranges_disjoint : ∀ r ∈ busMap, ∀ q ∈ busMap,
    r = q ∨ r.last < q.pattern.toNat ∨ q.last < r.pattern.toNat := by decide

theorem busMap_region_injective : ∀ r ∈ busMap, ∀ q ∈ busMap, r.region = q.region → r = q := by decide

theorem busMap_region_mapped : ∀ r ∈ busMap, r.region ≠ .unmapped := by decide

/-- No two rows of the map share an address (30_encoding.md R96). -/
theorem busMap_claims_unique {r q : MapRow} (hr : r ∈ busMap) (hq : q ∈ busMap) {a : Addr} (hra : r.claims a = true)
    (hqa : q.claims a = true) : r = q := by
  obtain ⟨rlo, rhi⟩ := (busMap_claims_iff hr a).mp hra
  obtain ⟨qlo, qhi⟩ := (busMap_claims_iff hq a).mp hqa
  rcases busMap_ranges_disjoint r hr q hq with same | apart | apart
  · exact same
  · omega
  · omega

/-! ### The region of an address -/

/-- The region of an address is that of a row that claims it, unmapped when none does. -/
theorem regionIn_spec (m : List MapRow) (a : Addr) :
    (∃ r ∈ m, r.claims a = true ∧ regionIn m a = r.region) ∨
    ((∀ r ∈ m, r.claims a = false) ∧ regionIn m a = .unmapped) := by
  induction m with
  | nil => exact .inr ⟨nofun, rfl⟩
  | cons r rs ih =>
    cases hr : r.claims a
    case true => exact .inl ⟨r, List.mem_cons_self, hr, by simp [regionIn, hr]⟩
    case false => simpa [regionIn, hr] using ih

theorem busMap_claims_iff_region {r : MapRow} (hr : r ∈ busMap) (a : Addr) :
    r.claims a = true ↔ region a = r.region := by
  rcases regionIn_spec busMap a with ⟨q, hq, hqa, hregion⟩ | ⟨unclaimed, hregion⟩
  · rw [region, hregion]
    constructor
    · intro hra
      rw [busMap_claims_unique hr hq hra hqa]
    · intro hsame
      rwa [busMap_region_injective r hr q hq hsame.symm]
  · rw [region, hregion, unclaimed r hr]
    simpa using (busMap_region_mapped r hr).symm

theorem region_eq_unmapped_iff (a : Addr) : region a = .unmapped ↔ ∀ r ∈ busMap, r.claims a = false := by
  rcases regionIn_spec busMap a with ⟨q, hq, hqa, hregion⟩ | ⟨unclaimed, hregion⟩
  · rw [region, hregion]
    refine iff_of_false (busMap_region_mapped q hq) fun unclaimed => ?_
    rw [unclaimed q hq] at hqa
    cases hqa
  · exact iff_of_true hregion unclaimed

/-- Every range of the map lies in the row of its region, or apart from all rows when it is listed as unmapped. -/
theorem mapRanges_spec : ∀ row ∈ mapRanges,
    (∃ r ∈ busMap, r.region = row.2.2 ∧ r.pattern.toNat ≤ row.1 ∧ row.2.1 ≤ r.last) ∨
    (row.2.2 = .unmapped ∧ ∀ r ∈ busMap, row.2.1 < r.pattern.toNat ∨ r.last < row.1) := by decide

/-- An address between the inclusive ends of a range has the region listed (20_memory.md R69). -/
theorem region_of_mem_mapRanges {row : Nat × Nat × Region} (hrow : row ∈ mapRanges) {a : Addr} (hlo : row.1 ≤ a.toNat)
    (hhi : a.toNat ≤ row.2.1) : region a = row.2.2 := by
  rcases mapRanges_spec row hrow with ⟨r, hr, hregion, hfirst, hlast⟩ | ⟨hunmapped, apart⟩
  · rw [← hregion, ← busMap_claims_iff_region hr, busMap_claims_iff hr]
    omega
  · rw [hunmapped, region_eq_unmapped_iff]
    intro r hr
    have outside := apart r hr
    rw [← Bool.not_eq_true, busMap_claims_iff hr]
    omega

theorem mapRanges_cover (a : Addr) : ∃ row ∈ mapRanges, row.1 ≤ a.toNat ∧ a.toNat ≤ row.2.1 := by
  have := a.isLt
  simp only [mapRanges, List.mem_cons, List.not_mem_nil, or_false, exists_eq_or_imp, exists_eq_left]
  omega

/-- Settles O5: a row claims an inclusive range, and the ranges of the map are those ranges and the gaps between. -/
theorem regionsAreTheMapsRanges : Obligations.RegionsAreTheMapsRanges :=
  ⟨fun _ hr a => busMap_claims_iff_region hr a,
    fun _ hr _ hq _ hra hqa => busMap_claims_unique hr hq hra hqa,
    region_eq_unmapped_iff,
    fun _ hrow _ hlo hhi => region_of_mem_mapRanges hrow hlo hhi,
    mapRanges_cover⟩

end Sys2Proof
end

section
/-! Addresses as the encoder writes them (30_encoding.md R94, R97): a row's leading bits followed by the operand. -/

namespace Sys2Proof

open Machine

/-! ### Leading bits and the low bits after them -/

section
variable {h n : Nat}

theorem toNat_append_eq_add (p : BitVec h) (k : BitVec n) : (p ++ k).toNat = p.toNat * 2 ^ n + k.toNat := by
  rw [BitVec.toNat_append, ← Nat.shiftLeft_add_eq_or_of_lt k.isLt, Nat.shiftLeft_eq]

/-- In the range of the words that begin with `p`, joining `p` and the low bits gives the word back. -/
theorem append_low_of_range {w : Nat} (hw : h + n = w) {p : BitVec h} {a : BitVec w} (hlo : p.toNat * 2 ^ n ≤ a.toNat)
    (hhi : a.toNat < (p.toNat + 1) * 2 ^ n) : (p ++ a.extractLsb' 0 n).cast hw = a := by
  subst hw
  have high : a.extractLsb' n h = p := by
    apply BitVec.eq_of_toNat_eq
    rw [BitVec.extractLsb'_toNat, Nat.shiftRight_eq_div_pow, Nat.div_eq_of_lt_le hlo hhi, Nat.mod_eq_of_lt p.isLt]
  rw [← high, BitVec.extractLsb'_append_extractLsb', BitVec.cast_eq]

end

/-! ### The region of an address, range by range -/

theorem region_eq_iff {a : Addr} {g : Region} :
    region a = g ↔ ∃ row ∈ mapRanges, row.2.2 = g ∧ row.1 ≤ a.toNat ∧ a.toNat ≤ row.2.1 := by
  constructor
  · rintro rfl
    obtain ⟨row, hrow, hlo, hhi⟩ := mapRanges_cover a
    exact ⟨row, hrow, (region_of_mem_mapRanges hrow hlo hhi).symm, hlo, hhi⟩
  · rintro ⟨row, hrow, rfl, hlo, hhi⟩
    exact region_of_mem_mapRanges hrow hlo hhi

/-- The well-formedness of an unmapped access is about the addresses that no row claims (40_bus_dispatch.md R128). -/
theorem unmappedAddr_iff_region {a : Addr} : unmappedAddr a = true ↔ region a = .unmapped := by
  rw [region_eq_iff]
  simp [unmappedAddr, mapRanges, or_assoc]

theorem mapRanges_mapped_unique : ∀ row ∈ mapRanges, ∀ other ∈ mapRanges,
    row.2.2 = other.2.2 → row.2.2 = .unmapped ∨ row = other := by decide

section
variable {h n : Nat} {g : Region} {a : Addr}

/-- The addresses of a mapped region are those of its one range. -/
theorem range_of_region {lo hi : Nat} (ha : region a = g) (hrow : (lo, hi, g) ∈ mapRanges) (hg : g ≠ .unmapped) :
    lo ≤ a.toNat ∧ a.toNat ≤ hi := by
  obtain ⟨row, hmem, hregion, hlo, hhi⟩ := region_eq_iff.mp ha
  rcases mapRanges_mapped_unique _ hrow row hmem hregion.symm with hunmapped | rfl
  · exact absurd hunmapped hg
  · exact ⟨hlo, hhi⟩

/-- When the addresses that begin with `p` are a range of the map, every operand after `p` lies in that region. -/
theorem region_append (hw : h + n = 16) (p : BitVec h) (k : BitVec n)
    (hrow : (p.toNat * 2 ^ n, (p.toNat + 1) * 2 ^ n - 1, g) ∈ mapRanges) : region ((p ++ k).cast hw) = g := by
  have joined : ((p ++ k).cast hw).toNat = p.toNat * 2 ^ n + k.toNat := by
    rw [BitVec.toNat_cast, toNat_append_eq_add]
  have hk : k.toNat ≤ 2 ^ n - 1 := Nat.le_sub_one_of_lt k.isLt
  apply region_of_mem_mapRanges hrow
  · exact joined ▸ Nat.le_add_right _ _
  · rw [joined, Nat.succ_mul, Nat.add_sub_assoc Nat.one_le_two_pow]
    exact Nat.add_le_add_left hk _

/-- When the addresses that begin with `p` are the range of a mapped region, an address of that region is `p` and the
address's low bits. -/
theorem append_of_region (ha : region a = g) (hw : h + n = 16) (p : BitVec h)
    (hrow : (p.toNat * 2 ^ n, (p.toNat + 1) * 2 ^ n - 1, g) ∈ mapRanges) (hg : g ≠ .unmapped) :
    (p ++ a.extractLsb' 0 n).cast hw = a := by
  obtain ⟨hlo, hhi⟩ := range_of_region ha hrow hg
  have hpos : 0 < (p.toNat + 1) * 2 ^ n := Nat.mul_pos p.toNat.succ_pos (Nat.two_pow_pos n)
  exact append_low_of_range hw hlo (Nat.lt_of_le_sub_one hpos hhi)

/-- A region of one address has no other. -/
theorem eq_of_region (ha : region a = g) (p : Addr) (hrow : (p.toNat, p.toNat, g) ∈ mapRanges) (hg : g ≠ .unmapped) :
    p = a :=
  have ⟨hlo, hhi⟩ := range_of_region ha hrow hg
  BitVec.eq_of_toNat_eq (Nat.le_antisymm hlo hhi)

end

/-! ### The encoder's addresses, row by row -/

@[simp] theorem region_bank1Addr (k : BitVec 14) : region (0b00#2 ++ k) = .bank1 := region_append rfl _ k (by decide)

@[simp] theorem region_bank2Addr (k : BitVec 14) : region (0b01#2 ++ k) = .bank2 := region_append rfl _ k (by decide)

@[simp] theorem region_bank3Addr (k : BitVec 14) : region (0b10#2 ++ k) = .bank3 := region_append rfl _ k (by decide)

@[simp] theorem region_piaAddr (off : BitVec 10) : region (0b110000#6 ++ off) = .pia :=
  region_append rfl _ off (by decide)

@[simp] theorem region_uartAddr (off : BitVec 10) : region (0b110001#6 ++ off) = .uart :=
  region_append rfl _ off (by decide)

@[simp] theorem region_vdpAddr (port : BitVec 1) : region (0b110011000000000#15 ++ port) = .vdp :=
  region_append rfl _ port (by decide)

@[simp] theorem region_diagAddr (port : BitVec 1) : region (0b110011010000000#15 ++ port) = .diag :=
  region_append rfl _ port (by decide)

@[simp] theorem region_romAddr (off : BitVec 13) : region (0b111#3 ++ off) = .rom := region_append rfl _ off (by decide)

@[simp] theorem region_psgStatusAddr : region 0xCC02#16 = .psgA := by decide

@[simp] theorem region_psgDataAddr : region 0xCC03#16 = .psgD := by decide

@[simp] theorem region_selClrAddr : region 0xCC06#16 = .selClr := by decide

@[simp] theorem region_selSetAddr : region 0xCC0E#16 = .selSet := by decide

@[simp] theorem windowOffset_append (p : BitVec 2) (k : BitVec 14) : (p ++ k).extractLsb' 0 14 = k :=
  BitVec.extractLsb'_append_eq_right

@[simp] theorem registerOffset_append (p : BitVec 6) (off : BitVec 10) : (p ++ off).extractLsb' 0 10 = off :=
  BitVec.extractLsb'_append_eq_right

@[simp] theorem port_append (p : BitVec 15) (port : BitVec 1) : (p ++ port).extractLsb' 0 1 = port :=
  BitVec.extractLsb'_append_eq_right

@[simp] theorem romOffset_append (p : BitVec 3) (off : BitVec 13) : (p ++ off).extractLsb' 0 13 = off :=
  BitVec.extractLsb'_append_eq_right

/-! ### The bus operations -/

/-- The address that the encoder writes for an access to region `g` whose operand is the low bits of `a`. -/
def addrOf (g : Region) (a : Addr) : Addr :=
  match g with
  | .bank1 => 0b00#2 ++ a.extractLsb' 0 14
  | .bank2 => 0b01#2 ++ a.extractLsb' 0 14
  | .bank3 => 0b10#2 ++ a.extractLsb' 0 14
  | .pia => 0b110000#6 ++ a.extractLsb' 0 10
  | .uart => 0b110001#6 ++ a.extractLsb' 0 10
  | .vdp => 0b110011000000000#15 ++ a.extractLsb' 0 1
  | .psgA => 0xCC02
  | .psgD => 0xCC03
  | .selClr => 0xCC06
  | .selSet => 0xCC0E
  | .diag => 0b110011010000000#15 ++ a.extractLsb' 0 1
  | .rom => 0b111#3 ++ a.extractLsb' 0 13
  | .unmapped => a

theorem addrOf_region (a : Addr) : addrOf (region a) a = a := by
  cases ha : region a with
  | bank1 => exact append_of_region ha rfl 0b00#2 (by decide) nofun
  | bank2 => exact append_of_region ha rfl 0b01#2 (by decide) nofun
  | bank3 => exact append_of_region ha rfl 0b10#2 (by decide) nofun
  | pia => exact append_of_region ha rfl 0b110000#6 (by decide) nofun
  | uart => exact append_of_region ha rfl 0b110001#6 (by decide) nofun
  | vdp => exact append_of_region ha rfl 0b110011000000000#15 (by decide) nofun
  | psgA => exact eq_of_region ha 0xCC02 (by decide) nofun
  | psgD => exact eq_of_region ha 0xCC03 (by decide) nofun
  | selClr => exact eq_of_region ha 0xCC06 (by decide) nofun
  | selSet => exact eq_of_region ha 0xCC0E (by decide) nofun
  | diag => exact append_of_region ha rfl 0b110011010000000#15 (by decide) nofun
  | rom => exact append_of_region ha rfl 0b111#3 (by decide) nofun
  | unmapped => rfl

theorem encodeFields_busRead (a : Addr) : encodeFields (busRead a) = (0x00, a, 0) := by
  have encoded : encodeFields (busRead a) = (0x00, addrOf (region a) a, 0) := by
    unfold busRead
    cases region a <;> rfl
  rw [encoded, addrOf_region]

theorem encodeFields_busWrite (a : Addr) (v : Byte) : encodeFields (busWrite a v) = (0x01, a, v) := by
  have encoded : encodeFields (busWrite a v) = (0x01, addrOf (region a) a, v) := by
    unfold busWrite
    cases region a <;> rfl
  rw [encoded, addrOf_region]

theorem wellFormed_busRead (a : Addr) : wellFormed (busRead a) = true := by
  unfold busRead
  cases ha : region a
  case unmapped => exact unmappedAddr_iff_region.mpr ha
  all_goals rfl

theorem wellFormed_busWrite (a : Addr) (v : Byte) : wellFormed (busWrite a v) = true := by
  unfold busWrite
  cases ha : region a
  case unmapped => exact unmappedAddr_iff_region.mpr ha
  all_goals rfl

theorem encodeImage_busRead (a : Addr) : encodeImage (busRead a) = [] := by
  unfold busRead
  cases region a <;> rfl

theorem encodeImage_busWrite (a : Addr) (v : Byte) : encodeImage (busWrite a v) = [] := by
  unfold busWrite
  cases region a <;> rfl

/-- A well-formed bus read is the read of the address it is encoded at. -/
theorem busRead_encoded {i : Instr} (hwf : wellFormed i = true) (hkind : (encodeFields i).1 = 0x00) :
    busRead (encodeFields i).2.1 = i := by
  cases i with
  | rdBank1 k | rdBank2 k | rdBank3 k | rdPia k | rdUart k | rdVdp k | rdDiag k | rdRom k
  | rdPsgStatus | rdPsgData | rdSelClr | rdSelSet => simp [encodeFields, busRead]
  | rdUnmapped a => simp [encodeFields, busRead, unmappedAddr_iff_region.mp hwf]
  | _ => simp [encodeFields] at hkind

/-- A well-formed bus write is the write of its value to the address it is encoded at. -/
theorem busWrite_encoded {i : Instr} (hwf : wellFormed i = true) (hkind : (encodeFields i).1 = 0x01) :
    busWrite (encodeFields i).2.1 (encodeFields i).2.2 = i := by
  cases i with
  | wrBank1 k v | wrBank2 k v | wrBank3 k v | wrPia k v | wrUart k v | wrVdp k v | wrDiag k v | wrRom k v
  | wrPsgAddr v | wrPsgData v | wrSelClr v | wrSelSet v => simp [encodeFields, busWrite]
  | wrUnmapped a v => simp [encodeFields, busWrite, unmappedAddr_iff_region.mp hwf]
  | _ => simp [encodeFields] at hkind

end Sys2Proof
end

section
/-! The decoder against the encoder (30_encoding.md R90 to R93). -/

namespace Sys2Proof

/-! ### The fields of a word (R90) -/

@[simp] theorem kindField_txWord (kind : Byte) (a : Addr) (d : Byte) : kindField (txWord kind a d) = kind := by
  unfold kindField txWord
  rw [BitVec.extractLsb'_append_eq_of_le (by decide)]
  exact BitVec.extractLsb'_append_eq_left

@[simp] theorem addrField_txWord (kind : Byte) (a : Addr) (d : Byte) : addrField (txWord kind a d) = a := by
  unfold addrField txWord
  rw [BitVec.extractLsb'_append_eq_of_le (by decide)]
  exact BitVec.extractLsb'_append_eq_right

@[simp] theorem dataField_txWord (kind : Byte) (a : Addr) (d : Byte) : dataField (txWord kind a d) = d :=
  BitVec.extractLsb'_append_eq_right

@[simp] theorem txWord_fields (w : TxWord) : txWord (kindField w) (addrField w) (dataField w) = w := by
  have upper : kindField w ++ addrField w = w.extractLsb' 8 24 :=
    BitVec.extractLsb'_append_extractLsb'_eq_extractLsb' rfl
  rw [txWord, upper]
  exact BitVec.extractLsb'_append_extractLsb'

/-! ### Unused bits, and one-bit operands: a level in DATA, a port index in ADDR (R91) -/

theorem levelData_bit_iff : ∀ d : Byte, levelData (d.getLsbD 0) = d ↔ d.extractLsb' 1 7 = 0 := by decide

/-- A word whose bits above bit 0 are zero is its bit 0. -/
theorem zero_append_bit {w : Nat} {x : BitVec (w + 1)} (h : x.extractLsb' 1 w = 0) :
    0#w ++ x.extractLsb' 0 1 = x := by
  calc 0#w ++ x.extractLsb' 0 1
    _ = x.extractLsb' 1 w ++ x.extractLsb' 0 1 := by rw [h]; rfl
    _ = x := BitVec.extractLsb'_append_extractLsb'

/-- Every bit of a field with no operand is unused. -/
theorem and_not_zero_eq_zero_iff {w : Nat} (x : BitVec w) : x &&& ~~~0 = 0 ↔ x = 0 := by
  simp

/-- The bits that a one-bit field leaves unused are the bits above bit 0. -/
theorem and_not_one_eq_zero_iff {w : Nat} (x : BitVec (w + 1)) : x &&& ~~~1 = 0 ↔ x.extractLsb' 1 w = 0 := by
  constructor
  · intro h
    ext i hi
    have bit : x.getLsbD (i + 1) = true → w ≤ i := by simpa using congrArg (·.getLsbD (i + 1)) h
    simpa [Nat.add_comm 1 i] using mt bit (by omega)
  · intro h
    ext i hi
    cases i with
    | zero => simp
    | succ i =>
      have bit : i < w → x.getLsbD (i + 1) = false := by
        simpa [Nat.add_comm 1 i] using congrArg (·.getLsbD i) h
      have high : x[i + 1] = false := by
        rw [← BitVec.getLsbD_eq_getElem, bit (by omega)]
      simp [high]

/-! ### The shapes of an event (R91) -/

section
variable {a : Addr} {d : Byte} {i j : Instr}

theorem ifUnusedZero_eq_ok {unusedZero : Bool} :
    ifUnusedZero unusedZero i = .ok j ↔ unusedZero = true ∧ i = j := by
  cases unusedZero <;> simp [ifUnusedZero]

theorem plainEvent_eq_ok : plainEvent a d i = .ok j ↔ (a = 0 ∧ d = 0) ∧ i = j := by
  simp [plainEvent, ifUnusedZero_eq_ok]

theorem byteEvent_eq_ok {mk : Byte → Instr} : byteEvent a d mk = .ok j ↔ a = 0 ∧ mk d = j := by
  simp [byteEvent, ifUnusedZero_eq_ok]

theorem levelEvent_eq_ok {mk : Bool → Instr} :
    levelEvent a d mk = .ok j ↔ (a = 0 ∧ levelData (d.getLsbD 0) = d) ∧ mk (d.getLsbD 0) = j := by
  rw [levelData_bit_iff, levelEvent, ifUnusedZero_eq_ok]
  simp

end

/-! ### What is read is spelled by what was read -/

/-- The encoder spells a well-formed instruction by these fields and this image. -/
structure SpelledBy (i : Instr) (kind : Byte) (a : Addr) (d : Byte) (image : List Byte) : Prop where
  fields : encodeFields i = (kind, a, d)
  beside : encodeImage i = image
  formed : wellFormed i = true

theorem SpelledBy.encode_eq {i : Instr} {w : TxWord} {image : List Byte}
    (h : SpelledBy i (kindField w) (addrField w) (dataField w) image) : encode i = ⟨w, image⟩ := by
  rw [encode, h.fields, h.beside]
  simp only [txWord_fields]

section
variable {kind k : Byte} {a : Addr} {d : Byte} {i j : Instr} {image : List Byte}

theorem spelledBy_of_busRead (hk : kind = 0x00) (h : ifUnusedZero (d == 0) (busRead a) = .ok j) :
    SpelledBy j kind a d [] := by
  obtain ⟨hd, rfl⟩ := ifUnusedZero_eq_ok.mp h
  obtain rfl := eq_of_beq hd
  subst hk
  exact ⟨encodeFields_busRead a, encodeImage_busRead a, wellFormed_busRead a⟩

theorem spelledBy_of_busWrite (hk : kind = 0x01) (h : Except.ok (ε := Reject) (busWrite a d) = .ok j) :
    SpelledBy j kind a d [] := by
  cases h
  subst hk
  exact ⟨encodeFields_busWrite a d, encodeImage_busWrite a d, wellFormed_busWrite a d⟩

theorem spelledBy_of_joyRead (hk : kind = 0x50)
    (h : ifUnusedZero (a.extractLsb' 1 15 == 0) (.joyRead (a.extractLsb' 0 1) d) = .ok j) :
    SpelledBy j kind a d [] := by
  obtain ⟨ha, rfl⟩ := ifUnusedZero_eq_ok.mp h
  subst hk
  refine ⟨?_, rfl, rfl⟩
  rw [encodeFields, zero_append_bit (eq_of_beq ha)]

theorem spelledBy_of_plainEvent (hk : kind = k) (h : plainEvent a d i = .ok j) (hi : SpelledBy i k 0 0 image) :
    SpelledBy j kind a d image := by
  obtain ⟨⟨rfl, rfl⟩, rfl⟩ := plainEvent_eq_ok.mp h
  exact hk ▸ hi

theorem spelledBy_of_byteEvent {mk : Byte → Instr} (hk : kind = k) (h : byteEvent a d mk = .ok j)
    (hmk : ∀ v, SpelledBy (mk v) k 0 v []) : SpelledBy j kind a d [] := by
  obtain ⟨rfl, rfl⟩ := byteEvent_eq_ok.mp h
  exact hk ▸ hmk d

theorem spelledBy_of_levelEvent {mk : Bool → Instr} (hk : kind = k) (h : levelEvent a d mk = .ok j)
    (hmk : ∀ l, SpelledBy (mk l) k 0 (levelData l) []) : SpelledBy j kind a d [] := by
  obtain ⟨⟨rfl, hd⟩, rfl⟩ := levelEvent_eq_ok.mp h
  have spelled := hmk (d.getLsbD 0)
  rw [hd] at spelled
  exact hk ▸ spelled

/-- What follows from either accepting branch of a choice follows from its accepting. -/
theorem of_ite_eq_ok {c p : Prop} [Decidable c] {x y : Except Reject Instr} (h : (if c then x else y) = .ok i)
    (hx : c → x = .ok i → p) (hy : y = .ok i → p) : p := by
  rcases ite_eq_iff.mp h with ⟨hc, accepted⟩ | ⟨-, accepted⟩
  · exact hx hc accepted
  · exact hy accepted

/-- What the decoder reads from the fields of a word is spelled by those fields. -/
theorem spelledBy_of_decodeFields (h : decodeFields kind a d = .ok i) : SpelledBy i kind a d [] := by
  unfold decodeFields at h
  refine of_ite_eq_ok h spelledBy_of_busRead fun h => ?_
  refine of_ite_eq_ok h spelledBy_of_busWrite fun h => ?_
  refine of_ite_eq_ok h (fun is02 h => spelledBy_of_plainEvent is02 h ⟨rfl, rfl, rfl⟩) fun h => ?_
  refine of_ite_eq_ok h (fun is10 h => spelledBy_of_byteEvent is10 h fun _ => ⟨rfl, rfl, rfl⟩) fun h => ?_
  refine of_ite_eq_ok h (fun is11 h => spelledBy_of_plainEvent is11 h ⟨rfl, rfl, rfl⟩) fun h => ?_
  refine of_ite_eq_ok h (fun is12 h => spelledBy_of_levelEvent is12 h fun _ => ⟨rfl, rfl, rfl⟩) fun h => ?_
  refine of_ite_eq_ok h (fun is20 h => spelledBy_of_levelEvent is20 h fun _ => ⟨rfl, rfl, rfl⟩) fun h => ?_
  refine of_ite_eq_ok h (fun is30 h => spelledBy_of_levelEvent is30 h fun _ => ⟨rfl, rfl, rfl⟩) fun h => ?_
  refine of_ite_eq_ok h (fun is40 h => spelledBy_of_levelEvent is40 h fun _ => ⟨rfl, rfl, rfl⟩) fun h => ?_
  refine of_ite_eq_ok h (fun is41 h => spelledBy_of_levelEvent is41 h fun _ => ⟨rfl, rfl, rfl⟩) fun h => ?_
  refine of_ite_eq_ok h spelledBy_of_joyRead fun h => ?_
  refine of_ite_eq_ok h (fun is60 h => spelledBy_of_byteEvent is60 h fun _ => ⟨rfl, rfl, rfl⟩) fun h => ?_
  refine of_ite_eq_ok h (fun is61 h => spelledBy_of_byteEvent is61 h fun _ => ⟨rfl, rfl, rfl⟩) fun h => ?_
  refine of_ite_eq_ok h (fun is7F h => spelledBy_of_plainEvent is7F h ⟨rfl, rfl, rfl⟩) fun h => ?_
  cases h

end

/-- What the decoder reads from a transaction is spelled by its word and its image. -/
theorem spelledBy_of_decode {t : Transaction} {i : Instr} (h : decode t = .ok i) :
    SpelledBy i (kindField t.word) (addrField t.word) (dataField t.word) t.image := by
  simp only [decode] at h
  split_ifs at h with attach alone
  · exact spelledBy_of_plainEvent attach h ⟨rfl, rfl, rfl⟩
  · exact List.isEmpty_iff.mp alone ▸ spelledBy_of_decodeFields h

/-- Settles O2: an accepted transaction is the spelling of the instruction read from it. -/
theorem encodeOfDecodeIsSameTransaction : Obligations.EncodeOfDecodeIsSameTransaction := by
  intro t i h
  have spelled := spelledBy_of_decode h
  exact ⟨spelled.encode_eq, spelled.formed⟩

/-! ### What is spelled is read back -/

theorem decode_attach (image : List Byte) : decode (encode (.cartAttach image)) = .ok (.cartAttach image) := by
  simp [decode, encode, encodeFields, encodeImage, plainEvent, ifUnusedZero]

theorem levelEvent_levelData (l : Bool) (mk : Bool → Instr) : levelEvent 0 (levelData l) mk = .ok (mk l) := by
  cases l <;> rfl

/-- The fields of a well-formed instruction other than the attach are read back as that instruction. -/
theorem decodeFields_encodeFields {i : Instr} (hwf : wellFormed i = true) (hkind : (encodeFields i).1 ≠ 0x70) :
    decodeFields (encodeFields i).1 (encodeFields i).2.1 (encodeFields i).2.2 = .ok i := by
  cases i with
  | rdBank1 | rdBank2 | rdBank3 | rdPia | rdUart | rdVdp | rdPsgStatus | rdPsgData | rdSelClr | rdSelSet | rdDiag
  | rdRom | rdUnmapped => exact congrArg Except.ok (busRead_encoded hwf rfl)
  | wrBank1 | wrBank2 | wrBank3 | wrPia | wrUart | wrVdp | wrPsgAddr | wrPsgData | wrSelClr | wrSelSet | wrDiag
  | wrRom | wrUnmapped => exact congrArg Except.ok (busWrite_encoded hwf rfl)
  | piaFirqLevel l | vdpIrqLevel l | svcNmiLevel l | kbdClock l | kbdData l => exact levelEvent_levelData l _
  | joyRead p raw =>
    have unused : (0#15 ++ p).extractLsb' 1 15 = 0 := BitVec.extractLsb'_append_eq_left
    exact ifUnusedZero_eq_ok.mpr ⟨beq_iff_eq.mpr unused, congrArg (Instr.joyRead · raw) (port_append _ p)⟩
  | cartAttach image => exact absurd rfl hkind
  | cpuBoundary | piaPortaOut | piaPortbIn | uartTx | hostSerialIn | machineStart => rfl

theorem encodeImage_eq_nil {i : Instr} (hkind : (encodeFields i).1 ≠ 0x70) : encodeImage i = [] := by
  cases i with
  | cartAttach image => exact absurd rfl hkind
  | _ => rfl

theorem eq_cartAttach_of_kind {i : Instr} (hkind : (encodeFields i).1 = 0x70) : ∃ image, i = .cartAttach image := by
  cases i with
  | cartAttach image => exact ⟨image, rfl⟩
  | _ => simp [encodeFields] at hkind

theorem decode_encode {i : Instr} (hwf : wellFormed i = true) : decode (encode i) = .ok i := by
  by_cases hkind : (encodeFields i).1 = 0x70
  · obtain ⟨image, rfl⟩ := eq_cartAttach_of_kind hkind
    exact decode_attach image
  · simp only [decode, encode, kindField_txWord, addrField_txWord, dataField_txWord, if_neg hkind,
      encodeImage_eq_nil hkind, List.isEmpty_nil, if_true, decodeFields_encodeFields hwf hkind]

/-- Settles O1: a bus access is read back through its address's region, every other operation through its kind. -/
theorem decodeOfEncodeIsSameInstr : Obligations.DecodeOfEncodeIsSameInstr := fun _ hwf => decode_encode hwf

end Sys2Proof
end

section
/-! The words that spell an operation (30_encoding.md R91, R92), and the words of the spec's vectors. -/

namespace Sys2Proof.Machine

/-! ### A row of the table of kinds -/

theorem kindTable_kinds_nodup : (kindTable.map Prod.fst).Nodup := by decide

/-- A word of a kind in the table spells an operation when the bits that its row leaves unused are zero. -/
theorem spellsOperation_iff_of_row {w : TxWord} {kind : Byte} {ua : Addr} {ud : Byte}
    (hrow : (kind, ua, ud) ∈ kindTable) (hk : kindField w = kind) :
    spellsOperation w ↔ addrField w &&& ~~~ua = 0 ∧ dataField w &&& ~~~ud = 0 := by
  constructor
  · rintro ⟨r, hr, hkind, ha, hd⟩
    obtain rfl := List.inj_on_of_nodup_map kindTable_kinds_nodup hrow hr (hk.symm.trans hkind)
    exact ⟨ha, hd⟩
  · rintro ⟨ha, hd⟩
    exact ⟨_, hrow, hk, ha, hd⟩

/-! ### The events that are accepted -/

section
variable {w : TxWord} {kind : Byte}

theorem plainEvent_accepts_iff {i : Instr} (hrow : (kind, 0, 0) ∈ kindTable) (hk : kindField w = kind) :
    (∃ j, plainEvent (addrField w) (dataField w) i = .ok j) ↔ spellsOperation w := by
  rw [spellsOperation_iff_of_row hrow hk, and_not_zero_eq_zero_iff, and_not_zero_eq_zero_iff]
  simp [plainEvent_eq_ok]

theorem byteEvent_accepts_iff {mk : Byte → Instr} (hrow : (kind, 0, 0xFF) ∈ kindTable) (hk : kindField w = kind) :
    (∃ j, byteEvent (addrField w) (dataField w) mk = .ok j) ↔ spellsOperation w := by
  rw [spellsOperation_iff_of_row hrow hk, and_not_zero_eq_zero_iff]
  simp [byteEvent_eq_ok]

theorem levelEvent_accepts_iff {mk : Bool → Instr} (hrow : (kind, 0, 1) ∈ kindTable) (hk : kindField w = kind) :
    (∃ j, levelEvent (addrField w) (dataField w) mk = .ok j) ↔ spellsOperation w := by
  rw [spellsOperation_iff_of_row hrow hk, and_not_zero_eq_zero_iff, and_not_one_eq_zero_iff, ← levelData_bit_iff]
  simp only [levelEvent_eq_ok, exists_and_left, exists_eq', and_true]

theorem busRead_accepts_iff (hk : kindField w = 0x00) :
    (∃ j, ifUnusedZero (dataField w == 0) (busRead (addrField w)) = .ok j) ↔ spellsOperation w := by
  rw [spellsOperation_iff_of_row (ua := 0xFFFF) (ud := 0) (by decide) hk, and_not_zero_eq_zero_iff]
  simp [ifUnusedZero_eq_ok]

theorem busWrite_accepts_iff (hk : kindField w = 0x01) :
    (∃ j, Except.ok (ε := Reject) (busWrite (addrField w) (dataField w)) = .ok j) ↔ spellsOperation w := by
  rw [spellsOperation_iff_of_row (ua := 0xFFFF) (ud := 0xFF) (by decide) hk]
  simp

theorem joyRead_accepts_iff (hk : kindField w = 0x50) :
    (∃ j, ifUnusedZero ((addrField w).extractLsb' 1 15 == 0)
      (.joyRead ((addrField w).extractLsb' 0 1) (dataField w)) = .ok j) ↔ spellsOperation w := by
  rw [spellsOperation_iff_of_row (ua := 1) (ud := 0xFF) (by decide) hk, and_not_one_eq_zero_iff]
  simp [ifUnusedZero_eq_ok]

/-- Whether a choice of two readings accepts is decided branch by branch. -/
theorem accepts_ite_iff {c : Prop} [Decidable c] {x y : Except Reject Instr} {p : Prop}
    (hx : c → ((∃ i, x = .ok i) ↔ p)) (hy : ¬ c → ((∃ i, y = .ok i) ↔ p)) :
    (∃ i, (if c then x else y) = .ok i) ↔ p := by
  split
  case isTrue hc => exact hx hc
  case isFalse hc => exact hy hc

/-- Without an image beside it, a word is read from its fields. -/
theorem decode_word (w : TxWord) :
    decode ⟨w, []⟩ =
      if kindField w = 0x70 then plainEvent (addrField w) (dataField w) (.cartAttach [])
      else decodeFields (kindField w) (addrField w) (dataField w) := rfl

/-- A word decodes exactly when its kind is in the table and its unused bits are zero (R92). -/
theorem decode_word_accepts_iff (w : TxWord) : (∃ i, decode ⟨w, []⟩ = .ok i) ↔ spellsOperation w := by
  rw [decode_word, decodeFields]
  refine accepts_ite_iff (plainEvent_accepts_iff (by decide)) fun not70 => ?_
  refine accepts_ite_iff busRead_accepts_iff fun not00 => ?_
  refine accepts_ite_iff busWrite_accepts_iff fun not01 => ?_
  refine accepts_ite_iff (plainEvent_accepts_iff (by decide)) fun not02 => ?_
  refine accepts_ite_iff (byteEvent_accepts_iff (by decide)) fun not10 => ?_
  refine accepts_ite_iff (plainEvent_accepts_iff (by decide)) fun not11 => ?_
  refine accepts_ite_iff (levelEvent_accepts_iff (by decide)) fun not12 => ?_
  refine accepts_ite_iff (levelEvent_accepts_iff (by decide)) fun not20 => ?_
  refine accepts_ite_iff (levelEvent_accepts_iff (by decide)) fun not30 => ?_
  refine accepts_ite_iff (levelEvent_accepts_iff (by decide)) fun not40 => ?_
  refine accepts_ite_iff (levelEvent_accepts_iff (by decide)) fun not41 => ?_
  refine accepts_ite_iff joyRead_accepts_iff fun not50 => ?_
  refine accepts_ite_iff (byteEvent_accepts_iff (by decide)) fun not60 => ?_
  refine accepts_ite_iff (byteEvent_accepts_iff (by decide)) fun not61 => ?_
  refine accepts_ite_iff (plainEvent_accepts_iff (by decide)) fun not7F => ?_
  have unknown : ∀ r ∈ kindTable, kindField w ≠ r.1 := by
    simpa [kindTable] using ⟨not00, not01, not02, not10, not11, not12, not20, not30, not40, not41, not50, not60, not61,
      not70, not7F⟩
  refine iff_of_false nofun ?_
  rintro ⟨r, hr, hkind, -⟩
  exact unknown r hr hkind

end

/-! ### The step of a refused word -/

theorem step_of_reject {s : State} {t : Transaction} {rest : List Transaction} {why : Reject}
    (hn : nextEvent s = some (t, rest)) (hd : decode t = .error why) : step s = .refused (.noOperation why) := by
  simp only [step, hn, hd]

/-- Settles O3: the decoder accepts the words of the table, and a word it does not accept has no step. -/
theorem otherWordsSpellNoOperation : Obligations.OtherWordsSpellNoOperation := by
  refine ⟨decode_word_accepts_iff, fun s w rest hn hspells => ?_⟩
  rw [← decode_word_accepts_iff] at hspells
  cases hd : decode ⟨w, []⟩ with
  | error why => exact ⟨why, step_of_reject hn hd⟩
  | ok i => exact absurd ⟨i, hd⟩ hspells

/-- Settles O4: each word is the spelling of its well-formed instruction, which is read back. -/
theorem specWordsDecode : Obligations.SpecWordsDecode :=
  ⟨decode_encode (i := .rdBank3 0x3FFF) rfl,
    decode_encode (i := .rdSelClr) rfl,
    decode_encode (i := .wrDiag 0 0xAB) rfl,
    decode_encode (i := .wrDiag 1 0xAB) rfl,
    decode_encode (i := .joyRead 1 0x9C) rfl,
    decode_encode (i := .rdUnmapped 0xD000) rfl,
    decode_encode (i := .wrRom 0x1FFF 0x12) rfl,
    decode_encode (i := .piaFirqLevel true) rfl,
    decode_encode (i := .kbdClock false) rfl,
    decode_encode (i := .cartAttach [0x12, 0x34]) rfl,
    decode_encode (i := .machineStart) rfl⟩

end Sys2Proof.Machine
end

section
/-! Accesses through the bank windows (40_bus_dispatch.md R115 to R117, R131 to R133): a window whose page exists reads
and writes the byte at its offset of that page. The other fields of the state need not be legal. -/

namespace Sys2Proof.Machine

/-! ### The offset a window reaches, as a number -/

theorem storeOffset_bank1 (k : BitVec 14) (s : State) : storeOffset .bank1 k s = k.toNat := Nat.zero_add _

theorem storeOffset_bank2 (k : BitVec 14) (s : State) : storeOffset .bank2 k s = 0x4000 + k.toNat := rfl

theorem storeOffset_bank3 (k : BitVec 14) (s : State) :
    storeOffset .bank3 k s = s.bank3Page * 16384 + k.toNat := rfl

/-- A byte of a whole page lies in the store (20_memory.md R72). -/
theorem pageOffset_lt_ramSize {c : Config} {page : Nat} (hpage : page < c.ramSize / 16384) (k : BitVec 14) :
    page * 16384 + k.toNat < c.ramSize := by
  have inWindow : k.toNat < 16384 := k.isLt
  omega

section
variable {s : State}

theorem storeOffset_bank1_lt_ramSize (hpages : 2 ≤ s.cfg.ramSize / 16384) (k : BitVec 14) :
    storeOffset .bank1 k s < s.cfg.ramSize :=
  pageOffset_lt_ramSize (page := 0) (by omega) k

theorem storeOffset_bank2_lt_ramSize (hpages : 2 ≤ s.cfg.ramSize / 16384) (k : BitVec 14) :
    storeOffset .bank2 k s < s.cfg.ramSize :=
  pageOffset_lt_ramSize (page := 1) (by omega) k

theorem storeOffset_bank3_lt_ramSize (hpage : s.bank3Page < s.cfg.ramSize / 16384) (k : BitVec 14) :
    storeOffset .bank3 k s < s.cfg.ramSize :=
  pageOffset_lt_ramSize hpage k

/-! ### The accesses -/

theorem exec_windowRead_inside {b : Bank} {k : BitVec 14} (hoff : storeOffset b k s < s.cfg.ramSize) :
    exec (windowRead b k) s =
      .next { s with started := true, answers := s.answers ++ [.cpu (Memory.read s.ram (storeOffset b k s))] } := by
  rw [exec_windowRead_eq_bankRead]
  rcases bankRead_spec b k s with ⟨-, completes⟩ | ⟨outside, -⟩
  · exact completes
  · exact absurd hoff (Nat.not_lt.mpr outside)

theorem exec_windowWrite_inside {b : Bank} {k : BitVec 14} (hoff : storeOffset b k s < s.cfg.ramSize) (v : Byte)
    (hform : Memory.wf s.ram = true) :
    ∃ m, exec (windowWrite b k v) s = .next { s with started := true, ram := m } ∧
      ∀ a, Memory.read m a = if a = storeOffset b k s then v else Memory.read s.ram a := by
  rw [exec_windowWrite_eq_bankWrite]
  rcases bankWrite_spec b k v s with ⟨-, completes⟩ | ⟨outside, -⟩
  · exact ⟨_, completes, fun _ => Memory.read_write hform⟩
  · exact absurd hoff (Nat.not_lt.mpr outside)

end

/-- Settles O18: bank1 and bank2 show pages 0 and 1, which exist. -/
theorem fixedBankReadsReturnStoreByte : Obligations.FixedBankReadsReturnStoreByte := by
  intro s k hpages
  have bank1 := exec_windowRead_inside (storeOffset_bank1_lt_ramSize hpages k)
  have bank2 := exec_windowRead_inside (storeOffset_bank2_lt_ramSize hpages k)
  rw [storeOffset_bank1] at bank1
  rw [storeOffset_bank2] at bank2
  exact ⟨bank1, bank2⟩

/-- Settles O19: bank3 shows the selected page, which exists. -/
theorem bank3ReadReturnsPageByte : Obligations.Bank3ReadReturnsPageByte := by
  intro s k hpage
  have bank3 := exec_windowRead_inside (storeOffset_bank3_lt_ramSize hpage k)
  rwa [storeOffset_bank3] at bank3

/-- Settles O20: a write through a fixed window stores its byte at the window's offset of page 0 or 1. -/
theorem fixedBankWritesStoreOneByte : Obligations.FixedBankWritesStoreOneByte := by
  intro s k v hpages hform
  have bank1 := exec_windowWrite_inside (storeOffset_bank1_lt_ramSize hpages k) v hform
  have bank2 := exec_windowWrite_inside (storeOffset_bank2_lt_ramSize hpages k) v hform
  rw [storeOffset_bank1] at bank1
  rw [storeOffset_bank2] at bank2
  exact ⟨bank1, bank2⟩

/-- Settles O21: a write through bank3 stores its byte in the selected page. -/
theorem bank3WriteStoresOneByte : Obligations.Bank3WriteStoresOneByte := by
  intro s k v hpage hform
  have bank3 := exec_windowWrite_inside (storeOffset_bank3_lt_ramSize hpage k) v hform
  rwa [storeOffset_bank3] at bank3

end Sys2Proof.Machine
end

section
/-! The accesses that the block answers itself (40_bus_dispatch.md R112, R122 to R130, R141; 46_host_io.md R262). -/

namespace Sys2Proof.Machine

/-! ### Open bus, ROM and the select ports -/

/-- Settles O22: each of the three is an open-bus read. -/
theorem unclaimedReadsReturnOpenBus : Obligations.UnclaimedReadsReturnOpenBus := by
  intro s port a i hi
  have openBus : exec i s = openBusRead s := by
    simp only [List.mem_cons, List.not_mem_nil, or_false] at hi
    rcases hi with rfl | rfl | rfl <;> rfl
  rw [openBus]
  rfl

theorem romByte_of_supplied {c : Config} {off : BitVec 13} {v : Byte} (h : c.rom[off.toNat]? = some v) :
    romByte c off = v := by
  rw [romByte, List.getD_eq_getElem?_getD, h, Option.getD_some]

/-- Settles O23: the byte returned is `romByte`, the supplied one where the host supplied one. -/
theorem romReadReturnsImageByte : Obligations.RomReadReturnsImageByte :=
  fun s off => ⟨romByte s.cfg off, rfl, fun _ supplied => romByte_of_supplied supplied⟩

theorem selectRead_eq (sel : Bool) (s : State) :
    selectRead sel s =
      .next { s with started := true, controllerSelect := sel, answers := s.answers ++ [.cpu 0x00] } := rfl

/-- Settles O24: the two reads are the select read at its two levels. -/
theorem selectReadsSetTheFlipFlop : Obligations.SelectReadsSetTheFlipFlop :=
  fun s => ⟨selectRead_eq false s, selectRead_eq true s⟩

/-- Settles O25: each of the four is a write without effect. -/
theorem noEffectWritesOnlyStart : Obligations.NoEffectWritesOnlyStart := by
  intro s v off a i hi
  have noEffect : exec i s = noEffectWrite s := by
    simp only [List.mem_cons, List.not_mem_nil, or_false] at hi
    rcases hi with rfl | rfl | rfl | rfl <;> rfl
  rw [noEffect]
  rfl

/-! ### The diagnostic port -/

/-- The character code of a digit: from 0x30 below ten, from 0x61 above (46_host_io.md R262). -/
theorem hexDigit_toNat : ∀ n : BitVec 4,
    (hexDigit n).toNat = if n.toNat < 10 then 0x30 + n.toNat else 0x61 + (n.toNat - 10) := by decide

theorem highNibble_toNat (v : Byte) : (v.extractLsb' 4 4).toNat = v.toNat / 16 := by
  have byte : v.toNat < 256 := v.isLt
  rw [BitVec.extractLsb'_toNat, Nat.shiftRight_eq_div_pow]
  omega

theorem lowNibble_toNat (v : Byte) : (v.extractLsb' 0 4).toNat = v.toNat % 16 := by
  rw [BitVec.extractLsb'_toNat, Nat.shiftRight_zero]

/-- Settles O26: the record's digits are those of the two halves of the byte. -/
theorem diagWriteEmitsOneRecord : Obligations.DiagWriteEmitsOneRecord := by
  intro s port v
  refine ⟨hexDigit (v.extractLsb' 4 4), hexDigit (v.extractLsb' 0 4), '\n', rfl, ?high, ?low, rfl⟩
  case high => rw [hexDigit_toNat, highNibble_toNat]
  case low => rw [hexDigit_toNat, lowNibble_toNat]

end Sys2Proof.Machine
end

section
/-! The accesses forwarded to a collaborator (40_bus_dispatch.md R114, R118 to R121, R134 to R138): each is the record of
the access over what `piaAccess_spec`, `vdpAccess_spec` and `uartAccess_spec` say its callbacks do. -/

namespace Sys2Proof.Machine

/-! ### Reads and writes over an access -/

section
variable (s : State)

theorem exec_rdPia (off : BitVec 10) :
    exec (.rdPia off) s =
      .next (s.markStarted.piaAccess.finishRead (.pia off) s.env.piaReply.answer s.env.piaReply.answer) := rfl

theorem exec_wrPia (off : BitVec 10) (v : Byte) :
    exec (.wrPia off v) s = .next (s.markStarted.piaAccess.record (.devWrite (.pia off) v)) := rfl

theorem exec_rdVdp (port : BitVec 1) :
    exec (.rdVdp port) s =
      .next (s.markStarted.vdpAccess.finishRead (.vdp port) s.env.vdpReply.answer s.env.vdpReply.answer) := rfl

theorem exec_wrVdp (port : BitVec 1) (v : Byte) :
    exec (.wrVdp port v) s = .next (s.markStarted.vdpAccess.record (.devWrite (.vdp port) v)) := rfl

theorem exec_wrUart (off : BitVec 10) (v : Byte) :
    exec (.wrUart off v) s = .next (s.markStarted.uartAccess.record (.devWrite (.uart off) v)) := rfl

end

/-! ### PIA, VDP and PSG -/

/-- Settles O27: the callbacks leave what `piaAccess_spec` says, and the read records and returns the answer. -/
theorem piaReadForwardsAndProcessesCallbacks : Obligations.PiaReadForwardsAndProcessesCallbacks := by
  intro s off
  obtain ⟨bs, n, queries, defined, access⟩ := State.piaAccess_spec s.markStarted
  refine ⟨bs, n, queries, defined, ?_⟩
  rw [exec_rdPia, access]
  rfl

/-- Settles O28: the callbacks leave what `piaAccess_spec` says, and the write records the value. -/
theorem piaWriteForwardsAndProcessesCallbacks : Obligations.PiaWriteForwardsAndProcessesCallbacks := by
  intro s off v
  obtain ⟨bs, n, queries, defined, access⟩ := State.piaAccess_spec s.markStarted
  refine ⟨bs, n, queries, defined, ?_⟩
  rw [exec_wrPia, access]
  rfl

/-- Settles O29: the reports leave what `vdpAccess_spec` says; either access draws once. -/
theorem vdpAccessesForwardAndProcessLevels : Obligations.VdpAccessesForwardAndProcessLevels := by
  intro s port v
  refine ⟨s.env.draws + 1, s.env.draws + 1, ?read, ?write⟩
  case read =>
    rw [exec_rdVdp, State.vdpAccess_spec]
    rfl
  case write =>
    rw [exec_wrVdp, State.vdpAccess_spec]
    rfl

/-- Settles O33: the PSG makes no callback, so an access to it is its record. -/
theorem psgAccessesForward : Obligations.PsgAccessesForward :=
  fun s _ => ⟨⟨s.env.draws + 1, rfl⟩, rfl, rfl⟩

/-! ### UART -/

section
variable {s : State} {off : BitVec 10}

/-- The debug receive intercepts offset 0 of the debug mode alone (46_host_io.md R260). -/
theorem exec_rdUart_of_not_receive (h : ¬ (s.cfg.uartDebugStdio = true ∧ off = 0)) :
    exec (.rdUart off) s = forwardedUartRead off s := by
  refine if_neg ?_
  rwa [Bool.and_eq_true, beq_iff_eq]

theorem exec_rdUart_receive (hdebug : s.cfg.uartDebugStdio = true) : exec (.rdUart 0) s = debugReceive s := by
  refine if_pos ?_
  rw [hdebug]
  rfl

/-- A receive with a host byte queued completes (46_host_io.md R258). -/
theorem debugReceive_of_cons {b : Byte} {bs : List Byte} (h : s.hostIn = b :: bs) :
    debugReceive s = .next ((s.markStarted.setHostIn bs).answer (.cpu b)) := by
  simp only [debugReceive, h]

/-- A forwarded read returns the UART's own answer but for the forced data-ready bit of offset 5 in debug mode
(46_host_io.md R259, R260). -/
theorem forwardedUartRead_unmodified (h : ¬ (s.cfg.uartDebugStdio = true ∧ off = 5)) :
    forwardedUartRead off s =
      .next (s.markStarted.uartAccess.finishRead (.uart off) s.env.uartReply.answer s.env.uartReply.answer) := by
  have returned : ¬ ((s.cfg.uartDebugStdio && off == 5) = true) := by rwa [Bool.and_eq_true, beq_iff_eq]
  rw [forwardedUartRead, if_neg returned]

end

/-- A UART read completes unless it is a debug receive with no host byte queued (46_host_io.md R258). -/
theorem rdUart_waits_or_completes (s : State) (off : BitVec 10) :
    (s.cfg.uartDebugStdio = true ∧ off = 0 ∧ s.hostIn = []) ∨ ∃ t, exec (.rdUart off) s = .next t := by
  by_cases receive : s.cfg.uartDebugStdio = true ∧ off = 0
  · obtain ⟨hdebug, rfl⟩ := receive
    cases queue : s.hostIn with
    | nil => exact .inl ⟨hdebug, rfl, rfl⟩
    | cons b bs => exact .inr ⟨_, (exec_rdUart_receive hdebug).trans (debugReceive_of_cons queue)⟩
  · exact .inr ⟨_, exec_rdUart_of_not_receive receive⟩

/-- Settles O30: outside the two intercepts neither the routing nor the answer of a read is changed, and a write has no
intercept; the transmitted bytes are `uartAccess_spec`'s. -/
theorem uartAccessesForwardUnmodified : Obligations.UartAccessesForwardUnmodified := by
  intro s off v
  refine ⟨s.env.draws + 1, s.env.draws + 1, fun outside => ?read, ?write⟩
  case read =>
    have notReceive : ¬ (s.cfg.uartDebugStdio = true ∧ off = 0) := by
      rintro ⟨debug, rfl⟩
      simp [debug] at outside
    have notStatus : ¬ (s.cfg.uartDebugStdio = true ∧ off = 5) := by
      rintro ⟨debug, rfl⟩
      simp [debug] at outside
    rw [exec_rdUart_of_not_receive notReceive, forwardedUartRead_unmodified notStatus, State.uartAccess_spec]
    rfl
  case write =>
    rw [exec_wrUart, State.uartAccess_spec]
    rfl

end Sys2Proof.Machine
end

section
/-! Every access of the CPU completes, at every address (40_bus_dispatch.md R113). -/

namespace Sys2Proof.Machine

/-- Register 0 of the UART is at one address. -/
theorem eq_uartBase {a : Addr} (ha : region a = .uart) (hoff : a.extractLsb' 0 10 = 0) : a = 0xC400 := by
  have joined : 0b110001#6 ++ a.extractLsb' 0 10 = a := append_of_region ha rfl 0b110001#6 (by decide) nofun
  rw [← joined, hoff]
  rfl

section
variable {s : State} (a : Addr)

/-- A write stays in its window's page, is forwarded, or is taken by the block itself: none waits or fails. -/
theorem memWrite_completes (hs : s.Legal) (v : Byte) : ∃ t, memWrite a v s = .next t := by
  unfold memWrite busWrite
  cases region a with
  | bank1 => exact ⟨_, exec_windowWrite hs .bank1 _ v⟩
  | bank2 => exact ⟨_, exec_windowWrite hs .bank2 _ v⟩
  | bank3 => exact ⟨_, exec_windowWrite hs .bank3 _ v⟩
  | pia | uart | vdp | psgA | psgD | selClr | selSet | diag | rom | unmapped => exact ⟨_, rfl⟩

/-- Of the reads only the UART's can wait, and only as a debug receive at its register 0. -/
theorem memRead_waits_or_completes (hs : s.Legal) :
    (s.cfg.uartDebugStdio = true ∧ a = 0xC400 ∧ s.hostIn = []) ∨ ∃ t, memRead a s = .next t := by
  unfold memRead busRead
  cases ha : region a with
  | bank1 => exact .inr ⟨_, exec_windowRead hs .bank1 _⟩
  | bank2 => exact .inr ⟨_, exec_windowRead hs .bank2 _⟩
  | bank3 => exact .inr ⟨_, exec_windowRead hs .bank3 _⟩
  | uart =>
    rcases rdUart_waits_or_completes s (a.extractLsb' 0 10) with ⟨debug, register0, empty⟩ | completes
    · exact .inl ⟨debug, eq_uartBase ha register0, empty⟩
    · exact .inr completes
  | pia | vdp | psgA | psgD | selClr | selSet | diag | rom | unmapped => exact .inr ⟨_, rfl⟩

end

/-- Settles O17, region by region for writes and for reads. -/
theorem everyBusAccessCompletes : Obligations.EveryBusAccessCompletes :=
  fun _ a v hs => ⟨memWrite_completes a hs v, memRead_waits_or_completes a hs⟩

end Sys2Proof.Machine
end

section
/-! Bank-3 page selection (41_banked_memory.md R163 to R168): a port-A report sets the page, nothing else does, and the
window shows the selected page at once. -/

namespace Sys2Proof.Machine

/-! ### The selection -/

theorem exec_piaPortaOut (v : Byte) (s : State) : exec (.piaPortaOut v) s = .next (s.selectBank3 v) := rfl

/-- Settles O34: the report is a bank selection, and NUM_BANKS is the number of whole pages. -/
theorem portAOutputSelectsPage : Obligations.PortAOutputSelectsPage := by
  intro s v
  rw [exec_piaPortaOut, State.selectBank3_eq]
  rfl

/-- An effect selects no page when the operation is no port-A report and the PIA makes none inside it. -/
theorem Effect.Allowed.pages_eq_nil {e : Effect} {i : Instr} {s : State} (he : e.Allowed i s)
    (hevent : ∀ v, i ≠ .piaPortaOut v)
    (hquiet : (∃ off, i = .rdPia off) ∨ (∃ off v, i = .wrPia off v) → portAReports s.env.piaReply.callbacks = []) :
    e.pages = [] := by
  rw [he.pages hevent]
  split
  · exact hquiet (.inl ⟨_, rfl⟩)
  · exact hquiet (.inr ⟨_, _, rfl⟩)
  · rfl

/-- Settles O54: the page after an effect is that of its port-A reports, and there is none. -/
theorem pageOnlyByPortAReports : Obligations.PageOnlyByPortAReports := by
  intro i s t h hstart hevent hquiet
  obtain ⟨e, rfl, he⟩ := exec_effect h hstart
  rw [Effect.after_bank3Page, he.pages_eq_nil hevent hquiet, pageAfter_nil]

/-! ### The window after a selection -/

theorem memRead_bank3Addr (k : BitVec 14) (s : State) : memRead (0b10#2 ++ k) s = exec (windowRead .bank3 k) s := by
  simp only [memRead, busRead, region_bank3Addr, windowOffset_append, windowRead]

theorem memWrite_bank3Addr (k : BitVec 14) (w : Byte) (s : State) :
    memWrite (0b10#2 ++ k) w s = exec (windowWrite .bank3 k w) s := by
  simp only [memWrite, busWrite, region_bank3Addr, windowOffset_append, windowWrite]

/-- Right after a selection the window starts at the selected page (41_banked_memory.md R168). -/
theorem storeOffset_bank3_selectBank3 (k : BitVec 14) (s : State) (v : Byte) :
    storeOffset .bank3 k (s.selectBank3 v) = v.toNat % s.cfg.numBanks * 16384 + k.toNat := rfl

/-- Settles O35: the selected state is legal, so the window's read and write complete, at the selected page. -/
theorem bank3ShowsTheSelectedPage : Obligations.Bank3ShowsTheSelectedPage := by
  intro s t v k w hs h
  have legal := exec_keeps_legal hs h
  obtain rfl := Host.Outcome.next.inj ((exec_piaPortaOut v s).symm.trans h)
  rw [memRead_bank3Addr, memWrite_bank3Addr]
  have inside := legal.storeOffset_lt_ramSize .bank3 k
  refine ⟨⟨_, exec_windowRead_inside inside, ?read⟩, ?write⟩
  case read =>
    rw [storeOffset_bank3_selectBank3]
    rfl
  case write =>
    obtain ⟨m, completes, bytes⟩ := exec_windowWrite_inside inside w legal.ramForm
    rw [storeOffset_bank3_selectBank3] at bytes
    exact ⟨_, completes, bytes⟩

end Sys2Proof.Machine
end

section
/-! The controller multiplexer (42_controller_mux.md R181 to R185): the layout of a read, as R181's and R182's formulas
and as R183's table of bits, and the joystick read that returns it. -/

namespace Sys2Proof.Machine

/-! ### The layout -/

section
variable (r : Byte)

theorem readPort_selected : readPort r true = (r &&& 0x3F) ||| 0xC0 := rfl

theorem readPort_notSelected : readPort r false = ((r &&& 0x0F) ||| ((r &&& 0xC0) >>> 2)) ||| 0xC0 := rfl

variable (sel : Bool)

/-- Both formulas end by setting the top two lines. -/
theorem readPort_top_bits : (readPort r sel).getLsbD 7 = true ∧ (readPort r sel).getLsbD 6 = true := by
  cases sel with
  | true => simp [readPort_selected]
  | false => simp [readPort_notSelected]

/-- The selected mask keeps bits 5 and 4; the other one drops them, and the shift brings bits 7 and 6 to their places. -/
theorem readPort_middle_bits :
    (readPort r sel).getLsbD 5 = (if sel then r.getLsbD 5 else r.getLsbD 7) ∧
    (readPort r sel).getLsbD 4 = (if sel then r.getLsbD 4 else r.getLsbD 6) := by
  cases sel with
  | true => simp [readPort_selected]
  | false => simp [readPort_notSelected]

/-- Both masks keep the low four bits, and neither the shifted bits nor the forced ones reach them. -/
theorem readPort_low_bit {i : Nat} (hi : i < 4) : (readPort r sel).getLsbD i = r.getLsbD i := by
  cases sel with
  | true => interval_cases i <;> simp [readPort_selected]
  | false => interval_cases i <;> simp [readPort_notSelected]

end

/-- Settles O38, by the top two bits, the two that depend on the select value, and the low four. -/
theorem multiplexerBitsAreTheTable : Obligations.MultiplexerBitsAreTheTable := by
  intro r sel
  obtain ⟨top7, top6⟩ := readPort_top_bits r sel
  obtain ⟨bit5, bit4⟩ := readPort_middle_bits r sel
  have low {i : Nat} (hi : i < 4) := readPort_low_bit r sel hi
  exact ⟨top7, top6, bit5, bit4, low (by decide), low (by decide), low (by decide), low (by decide)⟩

/-! ### The joystick read -/

/-- R185: the flip-flop's value at the moment of the read is the layout of the byte returned. -/
theorem exec_joyRead {s : State} {sel : Bool} (p : BitVec 1) (raw : Byte) (hsel : s.controllerSelect = sel) :
    exec (.joyRead p raw) s = .next (s.answer (.joy p (readPort raw sel))) := by
  subst hsel
  rfl

/-- Settles O37: the flip-flop chooses the formula, and the byte returned is all that a read adds. -/
theorem joystickReadRearrangesSnapshot : Obligations.JoystickReadRearrangesSnapshot := by
  intro s p raw
  refine ⟨fun selected => ?_, fun notSelected => ?_⟩
  · rw [exec_joyRead p raw selected, readPort_selected]
    rfl
  · rw [exec_joyRead p raw notSelected, readPort_notSelected]
    rfl

end Sys2Proof.Machine
end

section
/-! The interrupt lines (43_interrupt_lines.md R196 to R202): a report drives its line, and no operation drives a line
whose source reports nothing. -/

namespace Sys2Proof.Machine

/-! ### A level report -/

section
variable (l : Bool) (s : State)

theorem exec_svcNmiLevel : exec (.svcNmiLevel l) s = .next (s.driveLine .nmi l) := rfl

theorem exec_vdpIrqLevel : exec (.vdpIrqLevel l) s = .next (s.driveLine .irq l) := rfl

theorem exec_piaFirqLevel : exec (.piaFirqLevel l) s = .next (s.driveLine .firq l) := rfl

end

/-- Settles O39: each event drives its line, which sets the level and records it, without a look at the old one. -/
theorem levelReportsSetTheirLine : Obligations.LevelReportsSetTheirLine := by
  intro s l
  rw [exec_svcNmiLevel, exec_vdpIrqLevel, exec_piaFirqLevel]
  simp only [State.driveLine_eq]
  exact ⟨rfl, rfl, rfl⟩

/-! ### The lines over all operations -/

section
variable (e : Effect) (i : Instr) (s : State)

@[simp] theorem Effect.after_nmi : (e.after i s).nmi = e.nmi := rfl
@[simp] theorem Effect.after_irq : (e.after i s).irq = levelAfter s.irq e.irqs := rfl
@[simp] theorem Effect.after_firq : (e.after i s).firq = levelAfter s.firq e.firqs := rfl

end

section
variable {e : Effect} {i : Instr} {s : State}

/-- An effect reports no IRQ level when the operation is no IRQ event and the VDP reports none inside it. -/
theorem Effect.Allowed.irqs_eq_nil (he : e.Allowed i s) (hevent : ∀ l, i ≠ .vdpIrqLevel l)
    (hquiet : (∃ port, i = .rdVdp port) ∨ (∃ port v, i = .wrVdp port v) → s.env.vdpReply.callbacks = []) :
    e.irqs = [] := by
  rw [he.irqs hevent]
  split
  · exact hquiet (.inl ⟨_, rfl⟩)
  · exact hquiet (.inr ⟨_, _, rfl⟩)
  · rfl

/-- An effect reports no FIRQ level when the operation is no FIRQ event and the PIA reports none inside it, neither in an
access nor while it handles a change of the keyboard clock (44_keyboard.md R216). -/
theorem Effect.Allowed.firqs_eq_nil (he : e.Allowed i s) (hevent : ∀ l, i ≠ .piaFirqLevel l)
    (hquiet : (∃ off, i = .rdPia off) ∨ (∃ off v, i = .wrPia off v) → firqReports s.env.piaReply.callbacks = [])
    (hclock : (∃ l, i = .kbdClock l) → s.env.lineReply = []) : e.firqs = [] := by
  rw [he.firqs hevent]
  split
  · exact hquiet (.inl ⟨_, rfl⟩)
  · exact hquiet (.inr ⟨_, _, rfl⟩)
  · exact hclock ⟨_, rfl⟩
  · rfl

end

/-- Settles O40: the levels after an effect are those of its reports, and a quiet source makes none. -/
theorem linesChangeByTheirSourceOnly : Obligations.LinesChangeByTheirSourceOnly := by
  intro i s t h hstart
  obtain ⟨e, rfl, he⟩ := exec_effect h hstart
  refine ⟨?nmi, ?irq, ?firq⟩
  case nmi =>
    intro hevent
    rw [Effect.after_nmi, he.nmi hevent]
  case irq =>
    intro hevent hquiet
    rw [Effect.after_irq, he.irqs_eq_nil hevent hquiet, levelAfter_nil]
  case firq =>
    intro hevent hquiet hclock
    rw [Effect.after_firq, he.firqs_eq_nil hevent hquiet hclock, levelAfter_nil]

end Sys2Proof.Machine
end

section
/-! The keyboard and port B (44_keyboard.md R215 to R228): the admission of the two keyboard events, what an admitted
clock level leaves, the yields of a sequence of clock levels, the boundary and the port-B query. -/

namespace Sys2Proof.Machine

/-! ### Admission (R215) -/

section
variable (l : Bool) (s : State)

theorem exec_kbdClock : exec (.kbdClock l) s = ifKeyboardAdmitted s (clockLevel l s) := rfl

theorem exec_kbdData : exec (.kbdData l) s = ifKeyboardAdmitted s (s.setDataLine l) := rfl

end

section
variable {s : State}

theorem ifKeyboardAdmitted_of_admitted (u : State) (hp : s.cfg.kbdPresent = true) (hb : s.kbdBlocked = false) :
    ifKeyboardAdmitted s u = .next u := by
  simp [ifKeyboardAdmitted, hp, hb]

theorem ifKeyboardAdmitted_next_iff {u : State} :
    (∃ t, ifKeyboardAdmitted s u = .next t) ↔ s.cfg.kbdPresent = true ∧ s.kbdBlocked = false := by
  constructor
  · rintro ⟨t, h⟩
    obtain ⟨present, free, -⟩ := admitted_next h
    exact ⟨present, free⟩
  · rintro ⟨present, free⟩
    exact ⟨u, ifKeyboardAdmitted_of_admitted u present free⟩

theorem ifKeyboardAdmitted_refused (u : State) (h : s.cfg.kbdPresent = false ∨ s.kbdBlocked = true) :
    ∃ r, ifKeyboardAdmitted s u = .refused r := by
  rcases ifKeyboardAdmitted_spec s u with ⟨-, absent⟩ | ⟨-, -, waits⟩ | ⟨present, free, -⟩
  · exact ⟨_, absent⟩
  · exact ⟨_, waits⟩
  · simp [present, free] at h

end

/-- Settles O42: both events are what `ifKeyboardAdmitted` lets through. -/
theorem keyboardEventsNeedAdmission : Obligations.KeyboardEventsNeedAdmission := by
  intro s l i hi
  have guarded : ∃ u, exec i s = ifKeyboardAdmitted s u := by
    rcases List.mem_pair.mp hi with rfl | rfl
    · exact ⟨_, exec_kbdClock l s⟩
    · exact ⟨_, exec_kbdData l s⟩
  obtain ⟨u, meaning⟩ := guarded
  rw [meaning]
  exact ⟨ifKeyboardAdmitted_next_iff, ifKeyboardAdmitted_refused u⟩

/-- Settles O43: what is admitted is the update of the one field. -/
theorem dataEventStoresLevel : Obligations.DataEventStoresLevel := by
  intro s l present free
  rw [exec_kbdData]
  exact ifKeyboardAdmitted_of_admitted _ present free

/-! ### An admitted clock level (R216 to R219) -/

theorem fallingEdge_eq_true {prev new : Bool} : fallingEdge prev new = true ↔ prev = true ∧ new = false := by
  simp [fallingEdge]

theorem State.yieldKeyboard_eq (s : State) :
    s.yieldKeyboard =
      { s with kbdBlocked := s.cfg.kbdSliceGuard || s.kbdBlocked, hist := s.hist ++ [.yieldKbd] } := rfl

section
variable {s : State} (l : Bool)

/-- What an admitted clock level leaves: the forwarding does what `drivePiaLine_spec` says, and a falling edge against
the level stored before adds the yield. -/
theorem clockLevel_spec (hb : s.kbdBlocked = false) :
    clockLevel l s =
      { s with
        keyboardClockPrev := l
        firq := levelAfter s.firq s.env.lineReply
        kbdBlocked := fallingEdge s.keyboardClockPrev l && s.cfg.kbdSliceGuard
        hist := s.hist ++ lineRecords .firq s.env.lineReply ++ [.piaLine s.cfg.kbdClockLine l] ++
          (if s.keyboardClockPrev = true ∧ l = false then [.yieldKbd] else [])
        env := s.env.takeLine } := by
  unfold clockLevel
  simp only [State.drivePiaLine_spec, ← fallingEdge_eq_true]
  cases fallingEdge s.keyboardClockPrev l with
  | true => simp [State.yieldKeyboard_eq, State.setClockPrev, hb]
  | false => simp [State.setClockPrev, hb]

theorem exec_kbdClock_of_admitted (hp : s.cfg.kbdPresent = true) (hb : s.kbdBlocked = false) :
    exec (.kbdClock l) s = .next (clockLevel l s) := by
  rw [exec_kbdClock, ifKeyboardAdmitted_of_admitted _ hp hb]

theorem clockLevel_cfg (hb : s.kbdBlocked = false) : (clockLevel l s).cfg = s.cfg := by
  rw [clockLevel_spec l hb]

theorem clockLevel_keyboardClockPrev (hb : s.kbdBlocked = false) : (clockLevel l s).keyboardClockPrev = l := by
  rw [clockLevel_spec l hb]

theorem clockLevel_kbdBlocked (hb : s.kbdBlocked = false) :
    (clockLevel l s).kbdBlocked = (fallingEdge s.keyboardClockPrev l && s.cfg.kbdSliceGuard) := by
  rw [clockLevel_spec l hb]

/-- Neither the reports nor the forwarding is a yield. -/
theorem yields_clockLevel (hb : s.kbdBlocked = false) :
    yields (clockLevel l s) = yields s + if s.keyboardClockPrev = true ∧ l = false then 1 else 0 := by
  rw [clockLevel_spec l hb]
  unfold yields
  by_cases edge : s.keyboardClockPrev = true ∧ l = false
  · simp [edge, count_lineRecords]
  · simp [edge, count_lineRecords]

end

/-- Settles O41: an admitted clock event is its level's effect. -/
theorem clockEventStoresForwardsAndYields : Obligations.ClockEventStoresForwardsAndYields := by
  intro s l present free
  rw [exec_kbdClock_of_admitted l present free, clockLevel_spec l free]
  rfl

/-! ### A sequence of clock levels without the guard (R218, R222, R228) -/

/-- Without the guard no level blocks the keyboard, so every one is admitted, and each counts its own edge. -/
theorem execAll_kbdClock_unguarded (ls : List Bool) {s : State} (hp : s.cfg.kbdPresent = true)
    (hg : s.cfg.kbdSliceGuard = false) (hb : s.kbdBlocked = false) :
    ∃ t, execAll (ls.map .kbdClock) s = some t ∧ yields t = yields s + fallingEdges s.keyboardClockPrev ls := by
  induction ls generalizing s with
  | nil => exact ⟨s, rfl, rfl⟩
  | cons l ls ih =>
    have cfgKept := clockLevel_cfg l hb
    have free : (clockLevel l s).kbdBlocked = false := by
      rw [clockLevel_kbdBlocked l hb, hg, Bool.and_false]
    obtain ⟨t, run, count⟩ := ih (s := clockLevel l s) (cfgKept ▸ hp) (cfgKept ▸ hg) free
    refine ⟨t, execAll_cons_eq_some.mpr ⟨_, exec_kbdClock_of_admitted l hp hb, run⟩, ?_⟩
    rw [count, yields_clockLevel l hb, clockLevel_keyboardClockPrev l hb, fallingEdges, Nat.add_assoc]

/-- Settles O47: the general count, and the spec's sequences evaluated. -/
theorem clockSequenceYieldsPerTransition : Obligations.ClockSequenceYieldsPerTransition :=
  ⟨fun ls _ present noGuard free => execAll_kbdClock_unguarded ls present noGuard free, by decide⟩

/-! ### The boundary and the port-B query (R220, R223 to R225) -/

theorem exec_cpuBoundary (s : State) : exec .cpuBoundary s = .next (s.markStarted.setBlocked false) := rfl

theorem exec_piaPortbIn (s : State) : exec .piaPortbIn s = .next s.queryPortB := rfl

/-- Settles O44: the boundary is the two updates. -/
theorem boundaryEndsTheSlice : Obligations.BoundaryEndsTheSlice := by
  intro s
  rw [exec_cpuBoundary]
  rfl

/-- Settles O45: the query's byte has both bits right, and without a decoder the data line is idle, hence high. -/
theorem portBQueryReturnsBothBits : Obligations.PortBQueryReturnsBothBits := by
  intro s
  obtain ⟨b, ⟨cardRight, dataRight⟩, queried⟩ := s.queryPortB_spec
  refine ⟨b, s.env.draws + 1, cardRight, dataRight, fun legal absent => ?_, ?_⟩
  · obtain ⟨high, -⟩ := legal.idle absent
    rw [dataRight, high, Bool.not_true]
  · rw [exec_piaPortbIn, queried]
    rfl

end Sys2Proof.Machine
end

section
/-! The cartridge attach (45_cartridge.md R240 to R244): what the store reads after an image is loaded, the outcomes of
CART_ATTACH, and what an admitted one leaves. -/

namespace Sys2Proof.Machine

/-! ### The store after a load (R241) -/

section
variable {m : Memory} {base : Nat} {bytes : List Byte} (form : Memory.wf m = true)
include form

theorem Memory.read_load_inside {i : Nat} (h : i < bytes.length) :
    Memory.read (Memory.load m base bytes) (base + i) = bytes[i] := by
  rw [Memory.read_load form, if_pos (Nat.le_add_right base i), Nat.add_sub_cancel_left, List.getD_eq_getElem _ _ h]

theorem Memory.read_load_outside {a : Nat} (h : a < base ∨ base + bytes.length ≤ a) :
    Memory.read (Memory.load m base bytes) a = Memory.read m a := by
  rw [Memory.read_load form]
  split
  case isTrue above =>
    have past : bytes.length ≤ a - base := by omega
    exact List.getD_eq_default _ _ past
  case isFalse => rfl

end

/-! ### The outcomes of the attach (R242, R244) -/

theorem imageTooLarge_eq_true {c : Config} {len : Nat} :
    imageTooLarge c len = true ↔ c.ramSize < Config.cartBase + len := decide_eq_true_iff

theorem imageTooLarge_eq_false {c : Config} {len : Nat} :
    imageTooLarge c len = false ↔ Config.cartBase + len ≤ c.ramSize :=
  decide_eq_false_iff_not.trans Nat.not_lt

section
variable {s : State} {image : List Byte}

theorem exec_cartAttach : exec (.cartAttach image) s = execCartAttach image s := rfl

/-- The run or an earlier card decides before the image's length is looked at. -/
theorem execCartAttach_refused (h : s.started = true ∨ s.cardPresent = true) :
    ∃ r, execCartAttach image s = .refused r := by
  unfold execCartAttach
  by_cases begun : s.started = true
  · exact ⟨_, if_pos begun⟩
  · have second : s.cardPresent = true := h.resolve_left begun
    exact ⟨_, (if_neg begun).trans (if_pos second)⟩

section
variable (fresh : s.started = false) (empty : s.cardPresent = false)
include fresh empty

theorem execCartAttach_of_tooLarge (h : s.cfg.ramSize < Config.cartBase + image.length) :
    execCartAttach image s = .fault (.capacity image.length) := by
  simp [execCartAttach, fresh, empty, imageTooLarge_eq_true.mpr h, raiseError]

theorem execCartAttach_of_fits (h : Config.cartBase + image.length ≤ s.cfg.ramSize) :
    execCartAttach image s =
      .next ((s.setRam (Memory.load s.ram Config.cartBase image)).setCardPresent true) := by
  simp [execCartAttach, fresh, empty, imageTooLarge_eq_false.mpr h]

end

end

/-- Settles O48: the new store is the old one with the image loaded at `Config.cartBase`. -/
theorem attachCopiesImageAndSetsFlag : Obligations.AttachCopiesImageAndSetsFlag := by
  intro s image fresh empty fits form
  refine ⟨Memory.load s.ram Config.cartBase image, ?_, fun i h => ?_, fun a outside => ?_⟩
  · rw [exec_cartAttach, execCartAttach_of_fits fresh empty fits]
    rfl
  · exact Memory.read_load_inside form h
  · exact Memory.read_load_outside form outside

/-- Settles O49: the two ways an attach that is not admitted ends. -/
theorem attachIsRejectedLateTwiceOrTooLarge : Obligations.AttachIsRejectedLateTwiceOrTooLarge := by
  intro s image
  rw [exec_cartAttach]
  exact ⟨execCartAttach_of_tooLarge, execCartAttach_refused⟩

end Sys2Proof.Machine
end

section
/-! Host I/O (46_host_io.md R255 to R259): the two intercepts of the debug mode, and the serial events. -/

namespace Sys2Proof.Machine

/-! ### The debug line status (R259) -/

/-- Forcing data-ready is setting the one bit UART_DR_BIT. -/
theorem forceDataReady_eq_putBit (c : Config) (v : Byte) : forceDataReady c v = putBit v c.uartDrBit.val true := rfl

theorem getLsbD_forceDataReady (c : Config) (v : Byte) (j : Nat) :
    (forceDataReady c v).getLsbD j = if j = c.uartDrBit.val then true else v.getLsbD j := by
  rw [forceDataReady_eq_putBit, getLsbD_putBit _ _ _ _ c.uartDrBit.isLt]

/-- The record of a debug status read keeps the UART's own answer; the CPU gets it with data-ready forced. -/
theorem forwardedUartRead_status {s : State} (hdebug : s.cfg.uartDebugStdio = true) :
    forwardedUartRead 5 s =
      .next (s.markStarted.uartAccess.finishRead (.uart 5) s.env.uartReply.answer
        (forceDataReady s.cfg s.env.uartReply.answer)) := by
  have intercepted : (s.cfg.uartDebugStdio && (5 : BitVec 10) == 5) = true := by rw [hdebug]; rfl
  rw [forwardedUartRead, if_pos intercepted]

/-- Settles O32: offset 5 is forwarded like any read that is no receive, and only the byte returned is changed. -/
theorem debugLineStatusForcesDataReady : Obligations.DebugLineStatusForcesDataReady := by
  intro s hdebug
  refine ⟨forceDataReady s.cfg s.env.uartReply.answer, s.env.draws + 1, getLsbD_forceDataReady _ _, ?_⟩
  have notReceive : ¬ (s.cfg.uartDebugStdio = true ∧ (5 : BitVec 10) = 0) := by
    rintro ⟨-, offset⟩
    exact absurd offset (by decide)
  rw [exec_rdUart_of_not_receive notReceive, forwardedUartRead_status hdebug, State.uartAccess_spec]
  rfl

/-! ### The debug receive (R258) -/

/-- A receive with no host byte queued waits. -/
theorem debugReceive_of_nil {s : State} (h : s.hostIn = []) : debugReceive s = .refused .debugReceiveWaits := by
  simp only [debugReceive, h]

/-- Settles O31, by the two forms of the host's queue. -/
theorem debugReceiveReturnsHostByte : Obligations.DebugReceiveReturnsHostByte := by
  intro s hdebug
  rw [exec_rdUart_receive hdebug]
  refine ⟨fun b bs queued => ?_, debugReceive_of_nil⟩
  rw [debugReceive_of_cons queued]
  rfl

/-! ### The serial events (R255, R257) -/

theorem exec_uartTx (b : Byte) (s : State) : exec (.uartTx b) s = .next (s.emitSerial b) := rfl

theorem exec_hostSerialIn (b : Byte) (s : State) :
    exec (.hostSerialIn b) s = .next (s.setHostIn (s.hostIn ++ [b])) := rfl

/-- Settles O50: each event is the one update of its queue. -/
theorem serialEventsAppendTheirByte : Obligations.SerialEventsAppendTheirByte := by
  intro s b
  rw [exec_uartTx, exec_hostSerialIn]
  exact ⟨rfl, rfl⟩

end Sys2Proof.Machine
end

section
/-! With the slice guard a falling edge holds the keyboard until the next boundary (44_keyboard.md R219, R220;
70_reset_and_hazards.md R342): while it is held neither line moves and nothing yields, whatever the other agents do. -/

namespace Sys2Proof.Machine

/-! ### What an operation does to the keyboard's block and its yields -/

section
variable {e : Effect} {i : Instr} {s : State}

theorem Effect.after_kbdBlocked_of_ne (hboundary : i ≠ .cpuBoundary) (hclock : ∀ l, i ≠ .kbdClock l) :
    (e.after i s).kbdBlocked = s.kbdBlocked := by
  dsimp only [Effect.after]
  split
  · exact absurd rfl hboundary
  · exact absurd rfl (hclock _)
  · rfl

theorem Effect.yields_after : yields (e.after i s) = yields s + e.recs.count .yieldKbd := by
  rw [yields, Effect.after_hist, List.count_append, yields]

/-- Only a clock event yields (44_keyboard.md R219). -/
theorem Effect.Allowed.yields_after_of_ne (he : e.Allowed i s) (hclock : ∀ l, i ≠ .kbdClock l) :
    yields (e.after i s) = yields s := by
  have noYield : e.recs.count .yieldKbd = 0 := by
    rw [he.yielded]
    split
    · exact absurd rfl (hclock _)
    · rfl
  rw [Effect.yields_after, noYield, Nat.add_zero]

end

section
variable {i : Instr} {s t : State}

/-- The boundary alone ends a block, and a clock event alone starts one or yields. -/
theorem exec_keeps_block_and_yields (hi : i ≠ .cpuBoundary ∧ i ≠ .machineStart) (hclock : ∀ l, i ≠ .kbdClock l)
    (h : exec i s = .next t) : t.kbdBlocked = s.kbdBlocked ∧ yields t = yields s := by
  obtain ⟨notBoundary, notStart⟩ := hi
  obtain ⟨e, rfl, he⟩ := exec_effect h notStart
  exact ⟨Effect.after_kbdBlocked_of_ne notBoundary hclock, he.yields_after_of_ne hclock⟩

/-- With the guard an operation that yields leaves the keyboard blocked. -/
theorem exec_yields_and_blocks (hg : s.cfg.kbdSliceGuard = true) (hi : i ≠ .cpuBoundary ∧ i ≠ .machineStart)
    (h : exec i s = .next t) : yields t = yields s ∨ (yields t = yields s + 1 ∧ t.kbdBlocked = true) := by
  by_cases hclock : ∃ l, i = .kbdClock l
  · obtain ⟨l, rfl⟩ := hclock
    obtain ⟨-, free, rfl⟩ := admitted_next h
    rw [yields_clockLevel l free, clockLevel_kbdBlocked l free, hg, Bool.and_true, fallingEdge_eq_true]
    by_cases edge : s.keyboardClockPrev = true ∧ l = false
    · exact .inr ⟨by rw [if_pos edge], edge⟩
    · exact .inl (by rw [if_neg edge, Nat.add_zero])
  · exact .inl (exec_keeps_block_and_yields hi (not_exists.mp hclock) h).2

end

/-! ### A held keyboard -/

/-- From `s` to `t` a blocked keyboard was held: it is still blocked, no line moved and nothing yielded. -/
structure KeyboardHeld (s t : State) : Prop where
  blocked : t.kbdBlocked = true
  yields : yields t = yields s
  clock : t.keyboardClockPrev = s.keyboardClockPrev
  data : t.keyboardDataLine = s.keyboardDataLine

theorem KeyboardHeld.refl {s : State} (hb : s.kbdBlocked = true) : KeyboardHeld s s := ⟨hb, rfl, rfl, rfl⟩

theorem KeyboardHeld.trans {s t u : State} (h : KeyboardHeld s t) (h' : KeyboardHeld t u) : KeyboardHeld s u :=
  ⟨h'.blocked, h'.yields.trans h.yields, h'.clock.trans h.clock, h'.data.trans h.data⟩

/-- A blocked keyboard has no event of its own (44_keyboard.md R215), and only the boundary ends the block. -/
theorem exec_holds_blocked_keyboard {i : Instr} {s t : State} (hb : s.kbdBlocked = true)
    (hi : i ≠ .cpuBoundary ∧ i ≠ .machineStart) (h : exec i s = .next t) : KeyboardHeld s t := by
  have notAdmitted : ∀ {u}, ifKeyboardAdmitted s u ≠ .next t := by
    intro u admitted
    obtain ⟨-, free, -⟩ := admitted_next admitted
    exact Bool.false_ne_true (free.symm.trans hb)
  have notClock : ∀ l, i ≠ .kbdClock l := by
    rintro l rfl
    exact notAdmitted h
  have notData : ∀ l, i ≠ .kbdData l := by
    rintro l rfl
    exact notAdmitted h
  obtain ⟨sameBlock, sameYields⟩ := exec_keeps_block_and_yields hi notClock h
  obtain ⟨dataKept, clockKept⟩ := keyboardLinesOnlyByTheirEvents i s t h hi.2
  exact ⟨sameBlock.trans hb, sameYields, clockKept notClock, dataKept notData⟩

theorem execAll_holds_blocked_keyboard {is : List Instr} {s t : State} (hb : s.kbdBlocked = true)
    (his : ∀ i ∈ is, i ≠ .cpuBoundary ∧ i ≠ .machineStart) (h : execAll is s = some t) : KeyboardHeld s t := by
  induction is generalizing s with
  | nil => exact Option.some.inj h ▸ .refl hb
  | cons i is ih =>
    obtain ⟨next, first, rest⟩ := execAll_cons_eq_some.mp h
    obtain ⟨hi, his⟩ := List.forall_mem_cons.mp his
    have held := exec_holds_blocked_keyboard hb hi first
    exact held.trans (ih held.blocked his rest)

/-- Up to the first edge nothing yields, and from there on the keyboard is held. -/
theorem execAll_yields_le {is : List Instr} {s t : State} (hg : s.cfg.kbdSliceGuard = true)
    (his : ∀ i ∈ is, i ≠ .cpuBoundary ∧ i ≠ .machineStart) (h : execAll is s = some t) :
    yields t ≤ yields s + 1 := by
  induction is generalizing s with
  | nil => exact Option.some.inj h ▸ Nat.le_succ _
  | cons i is ih =>
    obtain ⟨next, first, rest⟩ := execAll_cons_eq_some.mp h
    obtain ⟨hi, his⟩ := List.forall_mem_cons.mp his
    rcases exec_yields_and_blocks hg hi first with noYield | ⟨oneYield, nowBlocked⟩
    · have guarded : next.cfg.kbdSliceGuard = true := by rwa [parametersNeverChange i s next first]
      exact noYield ▸ ih guarded his rest
    · have held := execAll_holds_blocked_keyboard nowBlocked his rest
      exact (held.yields.trans oneYield).le

/-- Settles O46: the bound by induction over the sequence, and after an edge the keyboard is held. -/
theorem atMostOneEdgeBetweenBoundaries : Obligations.AtMostOneEdgeBetweenBoundaries := by
  refine ⟨fun is s t guarded _ his run => execAll_yields_le guarded his run, ?_⟩
  intro is s t u guarded _ high edge his run
  obtain ⟨-, free, rfl⟩ := admitted_next edge
  have nowBlocked : (clockLevel false s).kbdBlocked = true := by
    rw [clockLevel_kbdBlocked false free, high, guarded]
    rfl
  have held := execAll_holds_blocked_keyboard nowBlocked his run
  refine ⟨?_, held.yields, held.clock, held.data⟩
  rw [yields_clockLevel false free, if_pos ⟨high, rfl⟩]

end Sys2Proof.Machine
end

section
/-! Machine start (70_reset_and_hazards.md R330, R331; 60_exceptions.md R300, R301): its outcomes, the values it leaves,
and its place in a run. -/

namespace Sys2Proof.Machine

/-! ### The outcomes -/

section
variable {s : State}

theorem exec_machineStart_of_created (hc : s.created = true) : exec .machineStart s = .refused .startedTwice :=
  if_pos hc

section
variable (hc : s.created = false)
include hc

theorem exec_machineStart_of_lt_two_pages (hn : s.cfg.ramSize / 16384 < 2) :
    exec .machineStart s = .fault (.configRam s.cfg.ramSize) := by
  rcases execMachineStart_spec s with ⟨created, -⟩ | ⟨-, -, fault⟩ | ⟨-, pages, -⟩
  · exact absurd (hc.symm.trans created) Bool.false_ne_true
  · exact fault
  · exact absurd hn (Nat.not_lt.mpr pages)

theorem exec_machineStart_of_two_pages (hn : 2 ≤ s.cfg.ramSize / 16384) :
    exec .machineStart s = .next (freshState s.cfg s.env) := by
  rcases execMachineStart_spec s with ⟨created, -⟩ | ⟨-, tooFew, -⟩ | ⟨-, -, starts⟩
  · exact absurd (hc.symm.trans created) Bool.false_ne_true
  · exact absurd tooFew (Nat.not_lt.mpr hn)
  · exact starts

end

end

/-- Settles O12: the page count decides, and the fixed map is checked row by row. -/
theorem machineStartNeedsTwoPages : Obligations.MachineStartNeedsTwoPages :=
  ⟨fun _ hc tooFew => exec_machineStart_of_lt_two_pages hc tooFew,
    fun _ hc pages => ⟨_, exec_machineStart_of_two_pages hc pages⟩, by decide⟩

/-! ### The values it leaves -/

/-- The page drawn at machine start is one of the store's (00_scope.md R12, 10_state.md R35). -/
theorem bank3Init_lt {c : Config} (hn : 2 ≤ c.numBanks) : c.bank3Init < c.numBanks :=
  Nat.mod_lt _ (Nat.zero_lt_of_lt hn)

/-- Settles O10: the fields are `freshState`'s. -/
theorem machineStartLeavesStartValues : Obligations.MachineStartLeavesStartValues := by
  intro s hc pages
  refine ⟨_, exec_machineStart_of_two_pages hc pages, rfl, rfl, rfl, rfl, rfl, bank3Init_lt pages, ?_⟩
  exact ⟨rfl, rfl, rfl, rfl, rfl, rfl, rfl, rfl, rfl, rfl, rfl, rfl⟩

/-- Settles O13: the reset state is `freshState` under the standard parameters, which have two pages. -/
theorem resetIsTheStateAfterMachineStart : Obligations.ResetIsTheStateAfterMachineStart := by
  refine ⟨?_, rfl, rfl, rfl, rfl, rfl, rfl, rfl, rfl, rfl, rfl, rfl, rfl, rfl, rfl⟩
  exact exec_machineStart_of_two_pages rfl standard_legalConfig.pages

/-! ### Its place in a run -/

@[simp] theorem Effect.after_created (e : Effect) (i : Instr) (s : State) : (e.after i s).created = s.created := rfl

/-- No operation but a machine start touches the record of it. -/
theorem exec_keeps_created {i : Instr} {s t : State} (hi : i ≠ .machineStart) (h : exec i s = .next t) :
    t.created = s.created := by
  obtain ⟨e, rfl, -⟩ := exec_effect h hi
  exact Effect.after_created e i s

/-- Before the machine start no other event has a step. -/
theorem processEvent_of_not_created {i : Instr} {s : State} (hc : s.created = false) (hi : i ≠ .machineStart) :
    processEvent i s = .refused .beforeMachineStart := by
  rcases processEvent_spec i s with ⟨created | start, -⟩ | ⟨-, -, refused⟩
  · exact absurd (hc.symm.trans created) Bool.false_ne_true
  · exact absurd start hi
  · exact refused

/-- A completed admitted event leaves the machine created, and is the machine start exactly when it was not. -/
theorem created_of_exec_admitted {i : Instr} {s t : State} (ha : s.created = true ∨ i = .machineStart)
    (h : exec i s = .next t) : t.created = true ∧ (i = .machineStart ↔ s.created = false) := by
  by_cases hi : i = .machineStart
  · subst hi
    obtain ⟨notCreated, -, rfl⟩ := machineStart_next h
    exact ⟨rfl, iff_of_true rfl notCreated⟩
  · have created := ha.resolve_right hi
    exact ⟨(exec_keeps_created hi h).trans created, iff_of_false hi (by simp [created])⟩

/-- Settles O11: the meaning refuses a second start, the admission any other event before the first. -/
theorem machineStartIsFirstAndOnce : Obligations.MachineStartIsFirstAndOnce := by
  refine ⟨fun s => exec_machineStart_of_created, ?before, ?after⟩
  case before =>
    intro s u rest i hc hn hd hi
    rw [step_of_nextEvent hn hd]
    exact processEvent_of_not_created (s := s.taking rest) hc hi
  case after =>
    intro s t h
    obtain ⟨u, rest, i, next, decoded, admitted, processed⟩ := step_next h
    obtain ⟨created, first⟩ := created_of_exec_admitted (s := s.taking rest) admitted processed
    exact ⟨created, u, rest, i, next, decoded, first⟩

end Sys2Proof.Machine
end

section
/-! The order of waiting events (60_exceptions.md R304, 70_reset_and_hazards.md R341): a waiting event keeps its place,
its agent's later events stay behind it, and the other agents go on. -/

namespace Sys2Proof.Machine

/-- A waiting event keeps its place before what is picked from behind it, where its agent waits too. -/
theorem pickEvent_cons_of_wait {s : State} {waiting : List Agent} {t : Transaction} {rest : List Transaction}
    {i : Instr} (hd : decode t = .ok i) (hw : agentOf i ∈ waiting ∨ isWait (processEvent i s) = true) :
    pickEvent s waiting (t :: rest) =
      (pickEvent s (agentOf i :: waiting) rest).map fun picked => (picked.1, t :: picked.2) := by
  have held : (waiting.contains (agentOf i) || isWait (processEvent i s)) = true := by simpa using hw
  simp only [pickEvent, hd, if_pos held]
  cases pickEvent s (agentOf i :: waiting) rest <;> rfl

/-- What is picked is no event of an agent that waits. -/
theorem agentOf_notMem_of_pickEvent {s : State} {waiting : List Agent} {ts us : List Transaction} {u : Transaction}
    {j : Instr} (h : pickEvent s waiting ts = some (u, us)) (hd : decode u = .ok j) : agentOf j ∉ waiting := by
  induction ts generalizing waiting us with
  | nil => cases h
  | cons t ts ih =>
    cases ht : decode t with
    | error why =>
      simp only [pickEvent, ht, Option.some.injEq, Prod.mk.injEq] at h
      obtain ⟨rfl, -⟩ := h
      cases ht.symm.trans hd
    | ok i =>
      by_cases hw : agentOf i ∈ waiting ∨ isWait (processEvent i s) = true
      · rw [pickEvent_cons_of_wait ht hw, Option.map_eq_some_iff] at h
        obtain ⟨⟨v, vs⟩, picked, same⟩ := h
        obtain ⟨rfl, -⟩ := Prod.mk.inj same
        exact fun waits => ih picked (List.mem_cons_of_mem _ waits)
      · obtain ⟨notWaiting, ready⟩ := not_or.mp hw
        rw [pickEvent_cons_of_ready ht notWaiting (Bool.eq_false_iff.mpr ready)] at h
        obtain ⟨rfl, -⟩ := Prod.mk.inj (Option.some.inj h)
        obtain rfl := Except.ok.inj (ht.symm.trans hd)
        exact notWaiting

/-- When nothing can be picked, the first pending event says why there is no step (log 2). -/
theorem nextEvent_of_pickEvent_none {s : State} {t : Transaction} {ts : List Transaction} (hi : s.env.inbox = t :: ts)
    (h : pickEvent s [] s.env.inbox = none) : nextEvent s = some (t, ts) := by
  rw [hi] at h
  simp only [nextEvent, hi, h]

section
variable {s : State} {t u : Transaction} {rest : List Transaction} {i j : Instr}

/-- An event of another agent is next when the first pending one waits. -/
theorem nextEvent_behind_wait (hi : s.env.inbox = t :: u :: rest) (hdt : decode t = .ok i) (hdu : decode u = .ok j)
    (hwt : isWait (processEvent i s) = true) (hwu : isWait (processEvent j s) = false) (ha : agentOf j ≠ agentOf i) :
    nextEvent s = some (u, t :: rest) := by
  apply nextEvent_of_pickEvent
  rw [hi, pickEvent_cons_of_wait hdt (.inr hwt), pickEvent_cons_of_ready hdu (by simpa using ha) hwu]
  rfl

/-- What is next behind a waiting first event is of another agent, or the first event itself when all wait. -/
theorem agent_of_nextEvent_behind_wait {v : Transaction} {ts vs : List Transaction} (hi : s.env.inbox = t :: ts)
    (hdt : decode t = .ok i) (hwt : isWait (processEvent i s) = true) (hn : nextEvent s = some (v, vs))
    (hdv : decode v = .ok j) : v = t ∨ agentOf j ≠ agentOf i := by
  cases hp : pickEvent s [] s.env.inbox with
  | none =>
    rw [nextEvent_of_pickEvent_none hi hp] at hn
    obtain ⟨first, -⟩ := Prod.mk.inj (Option.some.inj hn)
    exact .inl first.symm
  | some picked =>
    obtain rfl := Option.some.inj ((nextEvent_of_pickEvent hp).symm.trans hn)
    rw [hi, pickEvent_cons_of_wait hdt (.inr hwt), Option.map_eq_some_iff] at hp
    obtain ⟨⟨w, ws⟩, behind, same⟩ := hp
    obtain ⟨rfl, -⟩ := Prod.mk.inj same
    exact .inr (List.ne_of_not_mem_cons (agentOf_notMem_of_pickEvent behind hdv))

end

/-- Settles O8: in a created machine an event waits exactly when its meaning does. -/
theorem waitingAgentLetsOthersGoOn : Obligations.WaitingAgentLetsOthersGoOn := by
  intro s t u rest i j hc hi hdt hdu hwt hwu
  have admitted : ∀ k, processEvent k s = exec k s := fun _ => processEvent_admitted (.inl hc)
  rw [← admitted] at hwt hwu
  refine ⟨fun other => ?other, fun same overtakes => ?same⟩
  case other =>
    exact step_eq_exec_taking (nextEvent_behind_wait hi hdt hdu hwt hwu other) hdu (.inl hc)
  case same =>
    rcases agent_of_nextEvent_behind_wait hi hdt hwt overtakes hdu with rfl | other
    · obtain rfl := Except.ok.inj (hdt.symm.trans hdu)
      exact Bool.false_ne_true (hwu.symm.trans hwt)
    · exact other same

end Sys2Proof.Machine
end

section
/-! Waits and their ends (60_exceptions.md R304; 44_keyboard.md R215, R220; 46_host_io.md R257, R258), and the attach
that stays refused (45_cartridge.md R244). -/

namespace Sys2Proof.Machine

section
variable {s : State}

theorem ifKeyboardAdmitted_waits (u : State) (hp : s.cfg.kbdPresent = true) (hb : s.kbdBlocked = true) :
    ifKeyboardAdmitted s u = .refused .keyboardWaits := by
  simp [ifKeyboardAdmitted, hp, hb]

/-- Once the run has begun no attach has a step, whatever its image. -/
theorem exec_cartAttach_of_started (image : List Byte) (h : s.started = true) :
    exec (.cartAttach image) s = .refused .attachAfterRunBegan := if_pos h

/-- Nothing but a machine start ends a run that has begun (10_state.md R39). -/
theorem exec_keeps_started {i : Instr} {t : State} (hs : s.started = true) (hi : i ≠ .machineStart)
    (h : exec i s = .next t) : t.started = true := by
  rw [runBeginsAtCpuEventsOnly i s t h hi, hs, Bool.true_or]

end

/-- Settles O9, wait by wait. -/
theorem waitsAreLiftedByTheirEvents : Obligations.WaitsAreLiftedByTheirEvents := by
  refine ⟨?keyboard, ?receive, ?attach⟩
  case keyboard =>
    intro s t l present blocked boundary
    obtain rfl := Host.Outcome.next.inj boundary
    have lifted : (s.markStarted.setBlocked false).kbdBlocked = false := rfl
    exact ⟨ifKeyboardAdmitted_waits _ present blocked, ifKeyboardAdmitted_waits _ present blocked,
      ⟨_, ifKeyboardAdmitted_of_admitted _ present lifted⟩, ⟨_, ifKeyboardAdmitted_of_admitted _ present lifted⟩⟩
  case receive =>
    intro s t b debug empty arrives
    obtain rfl := Host.Outcome.next.inj arrives
    have queued : (s.setHostIn (s.hostIn ++ [b])).hostIn = [b] := by rw [State.setHostIn_hostIn, empty, List.nil_append]
    have returns := (exec_rdUart_receive (s := s.setHostIn (s.hostIn ++ [b])) debug).trans (debugReceive_of_cons queued)
    exact ⟨(exec_rdUart_receive debug).trans (debugReceive_of_nil empty), _, returns, rfl, rfl⟩
  case attach =>
    intro s t i image begun hi h
    exact ⟨exec_cartAttach_of_started image begun, exec_cartAttach_of_started image (exec_keeps_started begun hi h)⟩

end Sys2Proof.Machine
end

section
/-! The errors (60_exceptions.md R300, R302, R303): of all operations only the bank accesses, the attach and machine
start can end in one, and in a legal state only the attach. -/

namespace Sys2Proof.Machine

section
variable {s : State} {f : Fault}

theorem ifKeyboardAdmitted_ne_fault (u : State) : ifKeyboardAdmitted s u ≠ .fault f := by
  rcases ifKeyboardAdmitted_spec s u with ⟨-, h⟩ | ⟨-, -, h⟩ | ⟨-, -, h⟩
  all_goals
    rw [h]
    nofun

theorem exec_rdUart_ne_fault (off : BitVec 10) : exec (.rdUart off) s ≠ .fault f := by
  rcases rdUart_waits_or_completes s off with ⟨debug, rfl, empty⟩ | ⟨t, completes⟩
  · rw [exec_rdUart_receive debug, debugReceive_of_nil empty]
    nofun
  · rw [completes]
    nofun

/-- The attach's one error is its image's size, before the run and without a card (45_cartridge.md R242, R244). -/
theorem cartAttach_fault {image : List Byte} (h : execCartAttach image s = .fault f) :
    s.started = false ∧ f = .capacity image.length ∧ s.cfg.ramSize < Config.cartBase + image.length := by
  by_cases admitted : s.started = true ∨ s.cardPresent = true
  · obtain ⟨r, refused⟩ := execCartAttach_refused (image := image) admitted
    cases refused.symm.trans h
  · obtain ⟨notStarted, noCard⟩ := not_or.mp admitted
    have fresh := Bool.eq_false_iff.mpr notStarted
    have empty := Bool.eq_false_iff.mpr noCard
    rcases Nat.lt_or_ge s.cfg.ramSize (Config.cartBase + image.length) with tooLarge | fits
    · have capacity := (execCartAttach_of_tooLarge fresh empty tooLarge).symm.trans h
      exact ⟨fresh, (Host.Outcome.fault.inj capacity).symm, tooLarge⟩
    · cases (execCartAttach_of_fits fresh empty fits).symm.trans h

theorem machineStart_fault (h : execMachineStart s = .fault f) : s.cfg.numBanks < 2 := by
  rcases execMachineStart_spec s with ⟨-, refused⟩ | ⟨-, tooFew, -⟩ | ⟨-, -, starts⟩
  · cases refused.symm.trans h
  · exact tooFew
  · cases starts.symm.trans h

/-- In a legal state nothing but an attach ends in an error. -/
theorem eq_cartAttach_of_fault {i : Instr} (hs : s.Legal) (h : exec i s = .fault f) :
    ∃ image, i = .cartAttach image := by
  cases i with
  | cartAttach image => exact ⟨image, rfl⟩
  | rdBank1 k => cases (exec_windowRead hs .bank1 k).symm.trans h
  | rdBank2 k => cases (exec_windowRead hs .bank2 k).symm.trans h
  | rdBank3 k => cases (exec_windowRead hs .bank3 k).symm.trans h
  | wrBank1 k v => cases (exec_windowWrite hs .bank1 k v).symm.trans h
  | wrBank2 k v => cases (exec_windowWrite hs .bank2 k v).symm.trans h
  | wrBank3 k v => cases (exec_windowWrite hs .bank3 k v).symm.trans h
  | rdUart off => exact absurd h (exec_rdUart_ne_fault off)
  | kbdClock l => exact absurd h (ifKeyboardAdmitted_ne_fault _)
  | kbdData l => exact absurd h (ifKeyboardAdmitted_ne_fault _)
  | machineStart => exact absurd (machineStart_fault h) (Nat.not_lt.mpr hs.config.pages)
  | rdPia | rdVdp | rdPsgStatus | rdPsgData | rdSelClr | rdSelSet | rdDiag | rdRom | rdUnmapped | wrPia | wrUart | wrVdp
  | wrPsgAddr | wrPsgData | wrSelClr | wrSelSet | wrDiag | wrRom | wrUnmapped | cpuBoundary | piaPortaOut | piaPortbIn
  | piaFirqLevel | vdpIrqLevel | svcNmiLevel | joyRead | uartTx | hostSerialIn => cases h

end

/-- Settles O16: the error is an attach's, and an attach's error is its image's size. -/
theorem legalStatesHaveNoRunTimeError : Obligations.LegalStatesHaveNoRunTimeError := by
  intro s i f hs h
  obtain ⟨image, rfl⟩ := eq_cartAttach_of_fault hs h
  obtain ⟨fresh, capacity, tooLarge⟩ := cartAttach_fault h
  exact ⟨fresh, image, rfl, capacity, tooLarge⟩

end Sys2Proof.Machine
end

section
/-! The overlap check of the configuration (60_exceptions.md R301 (a), log 19): each part of the check answers the first
address of a set of addresses, and the whole check that of the addresses two rows share. -/

namespace Sys2Proof

/-! ### The first address with a property -/

/-- `o` is the lowest address with `p`, none when no address has it. -/
def IsFirstAddr (o : Option Addr) (p : Addr → Prop) : Prop :=
  match o with
  | none => ∀ b, ¬ p b
  | some a => p a ∧ ∀ b : Addr, b.toNat < a.toNat → ¬ p b

section
variable {o o' : Option Addr} {p q : Addr → Prop}

theorem isFirstAddr_some {a : Addr} : IsFirstAddr (some a) p ↔ p a ∧ ∀ b : Addr, b.toNat < a.toNat → ¬ p b := .rfl

theorem IsFirstAddr.congr (h : IsFirstAddr o p) (hpq : ∀ a, p a ↔ q a) : IsFirstAddr o q :=
  (funext fun a => propext (hpq a) : p = q) ▸ h

theorem IsFirstAddr.eq_none_iff (h : IsFirstAddr o p) : o = none ↔ ∀ b, ¬ p b := by
  cases o with
  | none => exact iff_of_true rfl h
  | some a => exact iff_of_false nofun fun never => never a h.1

/-- The lower of the first addresses of two sets is the first of their union. -/
theorem IsFirstAddr.lowerAddr (h : IsFirstAddr o p) (h' : IsFirstAddr o' q) :
    IsFirstAddr (lowerAddr o o') fun a => p a ∨ q a := by
  match o, o' with
  | none, b =>
    refine h'.congr fun a => ?_
    rw [or_iff_right (h a)]
  | some a, none =>
    refine h.congr fun b => ?_
    rw [or_iff_left (h' b)]
  | some a, some b =>
    obtain ⟨atFirst, below⟩ := h
    obtain ⟨atFirst', below'⟩ := h'
    by_cases le : a.toNat ≤ b.toNat
    · rw [Sys2Proof.lowerAddr, if_pos le]
      exact ⟨.inl atFirst, fun c lt => not_or.mpr ⟨below c lt, below' c (lt.trans_le le)⟩⟩
    · rw [Sys2Proof.lowerAddr, if_neg le]
      exact ⟨.inr atFirst', fun c lt => not_or.mpr ⟨below c (lt.trans (Nat.not_le.mp le)), below' c lt⟩⟩

end

/-! ### The addresses that two rows share -/

/-- Both rows claim the address. -/
def MapRow.Share (r q : MapRow) (a : Addr) : Prop := r.claims a = true ∧ q.claims a = true

theorem MapRow.claims_iff (r : MapRow) (a : Addr) : r.claims a = true ↔ a &&& r.mask = r.pattern := beq_iff_eq

section
variable {r q : MapRow} {a : Addr}

/-- Two rows that share an address agree on every bit both masks compare. -/
theorem MapRow.Share.agree (h : r.Share q a) : (r.pattern ^^^ q.pattern) &&& (r.mask &&& q.mask) = 0 := by
  obtain ⟨hr, hq⟩ := h
  rw [← (r.claims_iff a).mp hr, ← (q.claims_iff a).mp hq]
  ext k hk
  simp only [BitVec.getElem_and, BitVec.getElem_xor, BitVec.ofNat_eq_ofNat, BitVec.getElem_zero]
  cases a[k] <;> cases r.mask[k] <;> cases q.mask[k] <;> rfl

/-- A shared address has the bits of both patterns. -/
theorem MapRow.Share.pattern_or_le (h : r.Share q a) : (r.pattern ||| q.pattern).toNat ≤ a.toNat := by
  obtain ⟨hr, hq⟩ := h
  have masked : r.pattern ||| q.pattern = a &&& (r.mask ||| q.mask) := by
    rw [← (r.claims_iff a).mp hr, ← (q.claims_iff a).mp hq, BitVec.and_or_distrib_left]
  rw [masked, BitVec.toNat_and]
  exact Nat.and_le_left

/-- A row claims the bits of its pattern joined with those of a row it agrees with: where its mask compares, a bit of
the other pattern is compared by both masks, so it is a bit of the row's own pattern. -/
theorem MapRow.claims_pattern_or (hr : r.pattern &&& r.mask = r.pattern) (hq : q.pattern &&& q.mask = q.pattern)
    (agree : (r.pattern ^^^ q.pattern) &&& (r.mask &&& q.mask) = 0) : r.claims (r.pattern ||| q.pattern) = true := by
  rw [MapRow.claims_iff]
  ext k hk
  have hrk : (r.pattern[k] && r.mask[k]) = r.pattern[k] := by rw [← BitVec.getElem_and, hr]
  have hqk : (q.pattern[k] && q.mask[k]) = q.pattern[k] := by rw [← BitVec.getElem_and, hq]
  have agreek : ((r.pattern[k] ^^ q.pattern[k]) && (r.mask[k] && q.mask[k])) = false := by
    rw [← BitVec.getElem_xor, ← BitVec.getElem_and, ← BitVec.getElem_and, agree]
    exact BitVec.getElem_zero hk
  rw [BitVec.getElem_and, BitVec.getElem_or]
  cases hmask : r.mask[k] with
  | false =>
    rw [hmask, Bool.and_false] at hrk
    rw [Bool.and_false, ← hrk]
  | true =>
    rw [Bool.and_true]
    grind

/-- The check of two rows: they share an address exactly when they agree, and the lowest has both patterns' bits. -/
theorem MapRow.firstShared_isFirst (hr : r.pattern &&& r.mask = r.pattern) (hq : q.pattern &&& q.mask = q.pattern) :
    IsFirstAddr (r.firstShared q) (r.Share q) := by
  unfold MapRow.firstShared
  split
  case isTrue agree =>
    have agree' : (q.pattern ^^^ r.pattern) &&& (q.mask &&& r.mask) = 0 := by
      rwa [BitVec.xor_comm, BitVec.and_comm q.mask]
    have claims' : q.claims (r.pattern ||| q.pattern) = true := by
      rw [BitVec.or_comm]
      exact MapRow.claims_pattern_or hq hr agree'
    exact ⟨⟨MapRow.claims_pattern_or hr hq agree, claims'⟩, fun b lt shared => Nat.not_lt.mpr shared.pattern_or_le lt⟩
  case isFalse differ => exact fun b shared => differ shared.agree

/-! ### The rows of a map -/

/-- The check of one row against a list of rows, over what was found before. -/
theorem foldl_firstShared_isFirst {rs : List MapRow} {o : Option Addr} {p : Addr → Prop}
    (hr : r.pattern &&& r.mask = r.pattern) (hrs : ∀ q ∈ rs, q.pattern &&& q.mask = q.pattern) (ho : IsFirstAddr o p) :
    IsFirstAddr (rs.foldl (fun m q => lowerAddr m (r.firstShared q)) o) fun a => p a ∨ ∃ q ∈ rs, r.Share q a := by
  induction rs generalizing o p with
  | nil => exact ho.congr fun a => by simp
  | cons q rs ih =>
    obtain ⟨hq, hrs⟩ := List.forall_mem_cons.mp hrs
    have found := ih hrs (ho.lowerAddr (MapRow.firstShared_isFirst hr hq))
    refine found.congr fun a => ?_
    rw [List.exists_mem_cons_iff, or_assoc]

end

/-- No two rows of the map share the address. -/
def NoneShare (m : List MapRow) (a : Addr) : Prop := m.Pairwise fun r q => ¬ r.Share q a

theorem not_noneShare_cons {r : MapRow} {rs : List MapRow} {a : Addr} :
    ¬ NoneShare (r :: rs) a ↔ (∃ q ∈ rs, r.Share q a) ∨ ¬ NoneShare rs a := by
  simp only [NoneShare, List.pairwise_cons, not_and_or, not_forall, not_not, exists_prop]

/-- The whole check answers the first address that two rows share. -/
theorem mapOverlap_isFirst {m : List MapRow} (hm : ∀ r ∈ m, r.pattern &&& r.mask = r.pattern) :
    IsFirstAddr (mapOverlap m) fun a => ¬ NoneShare m a := by
  induction m with
  | nil => exact fun a shared => shared .nil
  | cons r rs ih =>
    obtain ⟨hr, hrs⟩ := List.forall_mem_cons.mp hm
    have first := foldl_firstShared_isFirst hr hrs (o := none) (p := fun _ => False) fun _ => id
    refine (first.lowerAddr (ih hrs)).congr fun a => ?_
    rw [not_noneShare_cons, false_or]

theorem pairwise_forall_iff {α β : Type} {R : β → α → α → Prop} {l : List α} :
    (l.Pairwise fun x y => ∀ b, R b x y) ↔ ∀ b, l.Pairwise (R b) := by
  simp only [List.pairwise_iff_forall_sublist]
  exact ⟨fun h b _ _ sub => h sub b, fun h _ _ sub b => h b sub⟩

/-- Settles O6: an overlap is an address that is not unshared, and the check answers the first. -/
theorem overlapCheckFindsFirstSharedAddress : Obligations.OverlapCheckFindsFirstSharedAddress := by
  intro m hm
  have first := mapOverlap_isFirst hm
  refine ⟨?none, fun a found => ?some⟩
  case none =>
    rw [first.eq_none_iff, pairwise_forall_iff]
    exact forall_congr' fun a => not_not
  case some =>
    rw [found] at first
    obtain ⟨shared, below⟩ := isFirstAddr_some.mp first
    exact ⟨shared, fun b lt => not_not.mp (below b lt)⟩

end Sys2Proof
end
